-- ==== Sys2Proof/Word.lean ====
section
/-! DEFINITION. The byte, the one bit-vector unit of the row bus, the radio-side link and the configuration image.
Seat numbers, ticket numbers, client ids, station addresses and stream ids are plain integers
(00_scope.md, "Numbers"), so the model holds them as `Nat`. -/

namespace Sys2Proof

/-- One byte on the row bus, on the radio-side link or in the configuration image. -/
abbrev Byte := BitVec 8

end Sys2Proof
end

