-- ==== Sys2Proof/Syntax.lean ====
section
/-! DEFINITION. The commands of the block, one constructor for each row of spec/opcode_table.json, with their operands. -/

namespace Sys2Proof

/-- A row-bus frame as the receiver hears it, less its kind byte, which the command's row gives (12.1): the destination
and source bytes, the declared payload length, the payload bytes actually received, and the two check bytes. -/
structure BusFrame where
  dest : Byte
  source : Byte
  length : BitVec 16
  payload : List Byte
  check : BitVec 16
  deriving DecidableEq, Repr

/-- One command for each row of spec/opcode_table.json. A request of the baseband (ASSOCIATE and the like) has no operand:
it is the taking of the inbound queue's head (R181), and the record stands in the queue. (DESIGN CHOICE, safe: log entry 6.) -/
inductive Instr where
  /-- FULL_RESET, R192; `strap` is the service strap as it is sampled. -/
  | fullReset (strap : Bool)
  /-- IMAGE_READ_COMPLETE, R194; the image's 48 bytes. -/
  | imageReadComplete (image : List Byte)
  /-- IMAGE_READ_FAILED, R193. -/
  | imageReadFailed
  /-- LISTEN_TIMER_EXPIRY, R199. -/
  | listenTimerExpiry
  /-- SITE_TIME_TICK, R155. -/
  | siteTimeTick
  /-- FRAME_START, R143. -/
  | frameStart
  /-- SLOT_START, R144: the start of the next slot of the frame, 1..S-2. -/
  | slotStart
  /-- LAST_SLOT_START, R139. -/
  | lastSlotStart
  /-- ADVERT_TIMER_EXPIRY, R11. -/
  | advertTimerExpiry
  /-- HOLD_OFF_TIMER_EXPIRY, R13. -/
  | holdOffTimerExpiry
  /-- AGE_TIMER_EXPIRY, R18, of the neighbour entry of a station. -/
  | ageTimerExpiry (station : Nat)
  /-- DECLINE_HOLD_EXPIRY, R19, of the neighbour entry of a station. -/
  | declineHoldExpiry (station : Nat)
  /-- IDLE_TIMER_EXPIRY, R35, of a client's record. -/
  | idleTimerExpiry (client : Nat)
  /-- CLAIMANT_TIMER_EXPIRY, R36, of a client's record. -/
  | claimantTimerExpiry (client : Nat)
  /-- EXPECTATION_HOLD_EXPIRY, R73, of a client's record. -/
  | expectationHoldExpiry (client : Nat)
  /-- STEER_HOLD_EXPIRY, R70, of a client's record. -/
  | steerHoldExpiry (client : Nat)
  /-- PULL_RESPONSE_TIMEOUT, R57, of a client's in-flight entry. -/
  | pullResponseTimeout (client : Nat)
  /-- OFFER_RESPONSE_TIMEOUT, R69, of a client's in-flight entry. -/
  | offerResponseTimeout (client : Nat)
  /-- CLAIM_TIMER_EXPIRY, R106, of a client's pending claim. -/
  | claimTimerExpiry (client : Nat)
  /-- JAM_WATCH_EXPIRY, R176. -/
  | jamWatchExpiry
  /-- TX_START, R171; `idle` is what the idle measure reads, in microseconds. (DESIGN CHOICE, safe: log entry 4.) -/
  | txStart (idle : Nat)
  /-- BACKOFF_END, R173. -/
  | backoffEnd
  /-- RETRY_ATTEMPT_START, R173; `idle` is what the idle measure reads, in microseconds. (DESIGN CHOICE, safe: log entry 4.) -/
  | retryAttemptStart (idle : Nat)
  /-- COLLISION, R173. -/
  | collision
  /-- FRAME_SENT, R172. -/
  | frameSent
  /-- LOAD_ADVERT, R17: a frame of kind 1. -/
  | loadAdvert (f : BusFrame)
  /-- CTX_PULL, R60: a frame of kind 2. -/
  | ctxPull (f : BusFrame)
  /-- CTX_GRANT, R58: a frame of kind 3. -/
  | ctxGrant (f : BusFrame)
  /-- CTX_NONE, R59: a frame of kind 4. -/
  | ctxNone (f : BusFrame)
  /-- CTX_HELD, R59: a frame of kind 5. -/
  | ctxHeld (f : BusFrame)
  /-- STEER_OFFER, R71: a frame of kind 6. -/
  | steerOffer (f : BusFrame)
  /-- STEER_ACCEPT, R67: a frame of kind 7. -/
  | steerAccept (f : BusFrame)
  /-- STEER_DECLINE, R68: a frame of kind 8. -/
  | steerDecline (f : BusFrame)
  /-- CHECKIN_CLAIM, R109: a frame of kind 9. -/
  | checkinClaim (f : BusFrame)
  /-- CHECKIN_VERDICT, R106: a frame of kind 10. -/
  | checkinVerdict (f : BusFrame)
  /-- CHECKIN_NOTE, R167: a frame of kind 11. -/
  | checkinNote (f : BusFrame)
  /-- INCIDENT, R167: a frame of kind 12. -/
  | incident (f : BusFrame)
  /-- RESYNC_REQUEST, R167: a frame of kind 13. -/
  | resyncRequest (f : BusFrame)
  /-- ISSUE, R85: an ENTITLEMENT frame (kind 33) whose action byte is 0. (DESIGN CHOICE, safe: log entry 16.) -/
  | issue (f : BusFrame)
  /-- REISSUE, R86: an ENTITLEMENT frame whose action byte is 1. -/
  | reissue (f : BusFrame)
  /-- VOID, R87: an ENTITLEMENT frame whose action byte is 2. -/
  | void (f : BusFrame)
  /-- CLEAR_CHECKIN, R88: an ENTITLEMENT frame whose action byte is 3. -/
  | clearCheckin (f : BusFrame)
  /-- RESYNC_FILL, R80: an ENTITLEMENT frame whose action byte is 4. -/
  | resyncFill (f : BusFrame)
  /-- INVALID_ENTITLEMENT_CODE, R202: an ENTITLEMENT frame whose action, tier or fill state is out of range. -/
  | invalidEntitlementCode (f : BusFrame)
  /-- FREEZE, R90: a frame of kind 34. -/
  | freeze (f : BusFrame)
  /-- UNFREEZE, R91: a frame of kind 35. -/
  | unfreeze (f : BusFrame)
  /-- CLOCK, R156: a frame of kind 32. -/
  | clock (f : BusFrame)
  /-- STREAM_ANNOUNCE, R117: a frame of kind 36. -/
  | streamAnnounce (f : BusFrame)
  /-- SEGMENT, R129: a frame of kind 37. -/
  | segment (f : BusFrame)
  /-- UNKNOWN_KIND_FRAME, R165: a frame of a kind the node does not know. -/
  | unknownKindFrame (kind : Byte) (f : BusFrame)
  /-- LINK_RECORD_ARRIVAL, R180: a link record's kind byte, body bytes and check byte; the two length bytes are the
  body's length. -/
  | linkRecordArrival (kind : Byte) (body : List Byte) (check : Byte)
  /-- ASSOCIATE, R27: the head of the inbound queue, a record of kind 64, is taken. -/
  | associate
  /-- HEARD, R34: a record of kind 65 is taken. -/
  | heard
  /-- DEPART, R38: a record of kind 66 is taken. -/
  | depart
  /-- PRESENT_TICKET, R95: a record of kind 67 is taken. -/
  | presentTicket
  /-- SUBSCRIBE, R42: a record of kind 68 is taken. -/
  | subscribe
  /-- UNSUBSCRIBE, R43: a record of kind 69 is taken. -/
  | unsubscribe
  /-- REPLAY_RESET, R151: a record of kind 70 is taken. -/
  | replayReset
  /-- ENABLE, R187: a NOTICE_CONTROL record (kind 71) with operation 0 is taken. -/
  | enable
  /-- DISABLE, R187: a NOTICE_CONTROL record with operation 1 is taken. -/
  | disable
  /-- ACK, R189: a NOTICE_CONTROL record with operation 2 is taken. -/
  | ack
  /-- GLOBAL_ON, R188: a NOTICE_CONTROL record with operation 3 is taken. -/
  | globalOn
  /-- GLOBAL_OFF, R188: a NOTICE_CONTROL record with operation 4 is taken. -/
  | globalOff
  /-- CLEAR_ALL, R189: a NOTICE_CONTROL record with operation 5 is taken. -/
  | clearAll
  /-- NOTICE_CONTROL_BAD_OPERATION, R202: a NOTICE_CONTROL record with an undefined operation is taken. -/
  | noticeControlBadOperation
  /-- STATUS_QUERY, R191: a record of kind 72 is taken. -/
  | statusQuery
  /-- UNKNOWN_KIND_RECORD, R181: a record of a kind the node does not take is taken. -/
  | unknownKindRecord
  /-- RECORD_TAKEN, R183: the last byte of the record in sending has gone out. -/
  | recordTaken
  /-- BASEBAND_READY, R183: the baseband's ready line changes to `ready`. -/
  | basebandReady (ready : Bool)
  /-- HOE_BACKLOG_MOVE, R50. -/
  | hoeBacklogMove
  /-- CKU_BACKLOG_MOVE, R112. -/
  | ckuBacklogMove
  /-- AST_BACKLOG_MOVE, R184. -/
  | astBacklogMove
  /-- STREAM_ENDED, R122. -/
  | streamEnded
  /-- NOTICE_DELIVERY, R188. -/
  | noticeDelivery
  /-- WAIT_QUEUE_HEAD, R52. -/
  | waitQueueHead
  /-- CARRIER_START, R164: another station begins to drive the line. -/
  | carrierStart
  /-- CARRIER_END, R164: a run of carrier that is not a good frame ends; `run` is its bytes. -/
  | carrierEnd (run : List Byte)
  deriving DecidableEq, Repr

end Sys2Proof
end

