-- ==== Sys2Proof/Decode.lean ====
section
/-! DEFINITION. The decoder of the block's command table. spec/opcode_table.json gives no row any bits (every row's "fields" is
empty and none has "fixed"), so no word spells a command. (DEDUCED, safe: log entry 15.) -/

namespace Sys2Proof

/-- The command that the `nbits` bits `w` spell by the table's bits: none, since no row of the table has bits. -/
def decodeTableWord (_nbits _w : Nat) : Option Instr := none

end Sys2Proof
end

