-- ==== Sys2Proof/Config.lean ====
section
/-! DEFINITION. The values that the spec leaves open, as constants with no body: nothing in Lean can compute one,
so whatever is proved holds for every value. -/

namespace Sys2Proof

/-- The random draws of R173: the n-th draw, before it is brought into its range. (DESIGN CHOICE, safe: log entry 9.) -/
opaque Config.freeDraw : Nat → Nat

/-- The deciding station of a CHECKIN_RESULT given while the node has no station address: R111 names the node's own
address, which R192 makes absent. (DESIGN CHOICE, safe: log entry 10.) -/
opaque Config.freeStation : Nat → Nat

/-- Whether the second CTX_PULL is offered to a full URGENT queue before the unstarted first one is withdrawn
from it: R48 and R57 give no order. (DESIGN CHOICE, safe: log entry 11.) -/
opaque Config.secondPullOfferedFirst : Bool

end Sys2Proof
end

