-- ==== Sys2Proof/Machine/Bytes.lean ====
section
/-! DEFINITION. Bytes and fields: byte order, signed and optional fields, the cyclic redundancy check and the link checksum
(12_frame_and_record_layouts.md, R97, R180, R201). Nothing here reads the state. -/

namespace Sys2Proof.Machine

/-- A multi-byte field, most significant byte first (12, first paragraph). -/
def beNat (bs : List Byte) : Nat := bs.foldl (fun a b => a * 256 + b.toNat) 0

/-- The `n` bytes of a field of value `v`, most significant byte first. -/
def beBytes : Nat → Nat → List Byte
  | 0, _ => []
  | n + 1, v => beBytes n (v / 256) ++ [BitVec.ofNat 8 v]

/-- The field of `len` bytes at offset `off`. -/
def fieldAt (bs : List Byte) (off len : Nat) : Nat := beNat ((bs.drop off).take len)

/-- A 16-bit field read as two's complement. -/
def signed16 (v : Nat) : Int := if v < 32768 then (v : Int) else (v : Int) - 65536

/-- The two bytes of a signed 16-bit field. -/
def signedBytes (v : Int) : List Byte := beBytes 2 (v % 65536).toNat

/-- R201: an optional field of `len` bytes whose presence byte stands at `off`: `none` when the presence byte is neither
0 nor 1, else the field or its absence. -/
def optionalAt (bs : List Byte) (off len : Nat) : Option (Option Nat) :=
  match fieldAt bs off 1 with
  | 0 => some none
  | 1 => some (some (fieldAt bs (off + 1) len))
  | _ => none

/-- R201: an absent field is sent as zero bytes of its full width behind presence byte 0. -/
def optionalBytes (len : Nat) : Option Nat → List Byte
  | none => beBytes (len + 1) 0
  | some v => beBytes 1 1 ++ beBytes len v

/-- R97: one bit of the check, polynomial x^16 + x^12 + x^5 + 1. -/
def crcBit (r : BitVec 16) (b : Bool) : BitVec 16 :=
  if r.msb ^^ b then (r <<< 1) ^^^ 4129#16 else r <<< 1

/-- R97: one byte of the check, most significant bit first. -/
def crcByte (r : BitVec 16) (b : Byte) : BitVec 16 :=
  [7, 6, 5, 4, 3, 2, 1, 0].foldl (fun r i => crcBit r (b.getLsbD i)) r

/-- R97 and R201: the check over bytes, from the register's starting value. -/
def crc16 (start : BitVec 16) (bs : List Byte) : BitVec 16 := bs.foldl crcByte start

/-- R201: the starting value of the frame check, all ones. -/
def frameCheckStart : BitVec 16 := 65535#16

/-- The sum of the bytes, modulo 256 (R180, R194). -/
def byteSum (bs : List Byte) : Byte := bs.foldl (· + ·) 0

/-- 12.1: the header bytes of a frame of kind `kind`. -/
def frameHeader (kind : Byte) (f : BusFrame) : List Byte :=
  [f.dest, f.source, kind] ++ beBytes 2 f.length.toNat

/-- R201: the frame check computed over header and payload as received. -/
def frameCheck (kind : Byte) (f : BusFrame) : BitVec 16 :=
  crc16 frameCheckStart (frameHeader kind f ++ f.payload)

/-- R165, step 2: the header is readable. -/
def headerReadable (f : BusFrame) : Bool :=
  f.length.toNat ≤ 1100 && f.length.toNat == f.payload.length &&
    f.source ≠ 0 && f.source.toNat ≤ 31 && f.dest.toNat ≤ 31

/-- R165, steps 1 and 2: the frame is neither damaged nor unreadable. -/
def frameGood (kind : Byte) (f : BusFrame) : Bool :=
  frameCheck kind f == f.check && headerReadable f

/-- The kind codes the node knows (12.1). -/
def knownFrameKind (kind : Byte) : Bool :=
  (1 ≤ kind.toNat && kind.toNat ≤ 13) || (32 ≤ kind.toNat && kind.toNat ≤ 37)

/-- 12.1: the bytes of a run of carrier read as a frame: header, payload, check. -/
def frameOfRun (run : List Byte) : BusFrame where
  dest := BitVec.ofNat 8 (fieldAt run 0 1)
  source := BitVec.ofNat 8 (fieldAt run 1 1)
  length := BitVec.ofNat 16 (fieldAt run 3 2)
  payload := (run.drop 5).take (run.length - 7)
  check := BitVec.ofNat 16 (fieldAt run (run.length - 2) 2)

/-- 12.1: the kind byte of a run of carrier read as a frame. -/
def kindOfRun (run : List Byte) : Byte := BitVec.ofNat 8 (fieldAt run 2 1)

/-- R164: a run shorter than a header and a check with an empty payload is a fragment. -/
def isFragment (run : List Byte) : Bool := run.length < 7

/-- The action byte of an ENTITLEMENT command is its row's own (12.1; DESIGN CHOICE, safe: log entry 16). -/
def withAction (code : Byte) (f : BusFrame) : BusFrame := { f with payload := f.payload.set 2 code }

/-- R202: an ENTITLEMENT payload's action, tier, or for RESYNC_FILL state, is out of range. -/
def entitlementCodesBad (p : List Byte) : Bool :=
  fieldAt p 2 1 > 4 || fieldAt p 9 1 > 2 ||
    (fieldAt p 2 1 == 4 && !(1 ≤ fieldAt p 12 1 && fieldAt p 12 1 ≤ 3))

end Sys2Proof.Machine
end

