-- ==== Sys2Proof/Machine/State.lean ====
section
/-! DEFINITION. The state of the node: one structure for each of the thirteen blocks (00_scope.md, "Block overview"), the
queue of waiting commands, and the state after a full reset. Plain data only. Each field's rule stands in its docstring. -/

namespace Sys2Proof.Machine

/-! ## Shared values -/

/-- A timer: `none` stopped, `some d` running, last started at `d` milliseconds of local time. Its expiry is a command.
(DESIGN CHOICE, safe: log entry 3.) -/
abbrev Timer := Option Nat

/-- The node states (11, first table). -/
inductive NodeState where
  | loading | unconfigured | listening | joined | muted
  deriving DecidableEq, Repr

/-- The fault reasons of an UNCONFIGURED node (R194). -/
inductive FaultReason where
  | noImage | badSum | badFormat | badAddress | badSection | badBlock
  deriving DecidableEq, Repr

/-- The states of the pressure monitor (R7). -/
inductive Monitor where
  | normal | high | critical
  deriving DecidableEq, Repr

/-- The match phases in their order (R158). -/
inductive Phase where
  | unknown | preGates | gatesOpen | firstHalf | interval | secondHalf | extraTime | penalties | fullTime
  deriving DecidableEq, Repr

/-- The classes of a client record (R26). -/
inductive ClientClass where
  | guest | claimant | home
  deriving DecidableEq, Repr

/-- The states of a client record (R24). -/
inductive RecordState where
  | expected | pulling | active | offering | steered | releasing
  deriving DecidableEq, Repr

/-- The one timer bound to a record's class or state (R23, R25). -/
inductive RecordTimer where
  | claimant | expectation | steer
  deriving DecidableEq, Repr

/-- A ticket binding (R23). -/
structure Binding where
  ticket : Nat
  seat : Nat
  deriving DecidableEq, Repr

/-- An ASSOCIATE request as the link carries it (R180, "Record kinds"). -/
structure AssocRequest where
  client : Nat
  prevStation : Option Nat
  prevSection : Option Nat
  declaredSeat : Option Nat
  heard : List Nat
  deriving DecidableEq, Repr

/-! ## Configuration Loader -/

/-- The configuration values after the clamps (R196, R197; layout 12.3). -/
structure NodeConfig where
  sectionId : Nat
  station : Nat
  firstSeat : Nat
  seatCount : Nat
  capacity : Nat
  clientWeight : Nat
  low : Int
  high : Int
  critical : Int
  slots : Nat
  rmax : Nat
  frameCode : Nat
  margin : Nat
  freezeMask : BitVec 16
  siteKey : BitVec 16
  deriving DecidableEq, Repr

/-- The Configuration Loader (11, second table). -/
structure Cfl where
  node : NodeState
  reason : Option FaultReason
  config : Option NodeConfig
  clamped : Bool
  service : Bool
  listenTimer : Timer
  deriving DecidableEq, Repr

/-! ## Pressure Monitor and Neighbour Table -/

/-- What the most recent accepted advert carried (R10). -/
structure Advertised where
  pressure : Int
  monitor : Monitor
  deriving DecidableEq, Repr

/-- The Pressure Monitor (R6). The pool is computed (R9). -/
structure Prm where
  pressure : Int
  monitor : Monitor
  restoreHold : Nat
  lastAdvert : Option Advertised
  advertTimer : Timer
  holdOff : Timer
  heldTrigger : Bool
  deriving DecidableEq, Repr

/-- One entry of the Neighbour Table (R16). -/
structure Neighbour where
  station : Nat
  firstSeat : Nat
  seatCount : Nat
  pressure : Int
  lastHeard : Nat
  ageTimer : Timer
  declineHold : Timer
  deriving DecidableEq, Repr

/-! ## Association Table -/

/-- A pull that a holder's grant has answered: the requester's station and the since-time that both attempts of the pull
carry (R57, R60). -/
structure Pull where
  station : Nat
  since : Nat
  deriving DecidableEq, Repr

/-- One client record (R23). `since` is the since-time; `heard` the heard list; `subs` the subscription list;
`held` the held association of R29; `granted` the pulls that the record's grants have answered, one for a station, by which the
retry of a withdrawn grant's pull is known (R29; DESIGN CHOICE, unsafe: log entry 25). -/
structure Record where
  client : Nat
  state : RecordState
  cls : ClientClass
  since : Nat
  heard : List Nat
  binding : Option Binding
  subs : List Nat
  badCodes : Nat
  peer : Option Nat
  timer : Option RecordTimer
  idle : Timer
  held : Option AssocRequest
  granted : List Pull
  deriving DecidableEq, Repr

/-- The Association Table: the records in order of creation (R22) and the steer-failure count (R45). -/
structure Ast where
  records : List Record
  steerFailures : Nat
  deriving DecidableEq, Repr

/-! ## Records placed on the message lane -/

/-- ASSOC_RESULT codes (R33). -/
inductive AssocCode where
  | accepted | freshForeign | freshNoClock | acceptedWithContext | acceptedFresh | refusedHeldElsewhere
  | refusedFull | refusedBusy | refusedStarting | refusedUnconfigured | refusedMuted
  deriving DecidableEq, Repr

/-- CHECKIN_RESULT codes (R111). -/
inductive CheckinCode where
  | admitted | unknownSeat | voided | notCurrent | duplicate | noOwner | ownerSilent | busy | lockedOut
  | wrongSection | badCode | notAssociated
  deriving DecidableEq, Repr

/-- SUBSCRIBE_RESULT codes (R42, R43). -/
inductive SubscribeCode where
  | subscribed | unsubscribed | notAssociated | unknownStream | streamEnding | already | listFull | notSubscribed
  deriving DecidableEq, Repr

/-- DROP_CLIENT reasons (10, "Record kinds"). -/
inductive DropReason where
  | idle | unverifiedSeat | cellFull | moved
  deriving DecidableEq, Repr

/-- REJECT reasons (R181). -/
inductive RejectReason where
  | unknownKind | badLength
  deriving DecidableEq, Repr

/-- The four notice groups (R186). -/
inductive NoticeGroup where
  | cell | ticket | replay | links
  deriving DecidableEq, Repr

/-- The 17 notice kinds (R186), in the order of their codes (12.2). -/
inductive NoticeKind where
  | pressureHigh | pressureCritical | pressureNormal | neighbourLost
  | duplicate | frozenUpdate | unfreezeRefused | ticketReissued
  | underrun | cacheFull | streamTableFull | segmentGap
  | txDrop | addressClash | jammed | clockDisagree | contextLost
  deriving DecidableEq, Repr

/-- The contents of a STATUS_REPLY (R191). A value that comes from the image is `none` where the image's values are
absent. -/
structure StatusReply where
  node : NodeState
  reason : Option FaultReason
  station : Option Nat
  sectionId : Option Nat
  firstSeat : Option Nat
  seatCount : Option Nat
  clamped : Bool
  service : Bool
  pressure : Int
  monitor : Monitor
  pool : Nat
  restoreHold : Nat
  assignedSlots : Nat
  clients : Nat
  guests : Nat
  byClass : List Nat
  byState : List Nat
  inflight : Nat
  waiting : Nat
  claims : Nat
  freeze : BitVec 16
  phase : Phase
  siteTime : Nat
  crcErrors : Nat
  txDrops : Nat
  frozenRefusals : Nat
  staleUpdates : Nat
  malformed : Nat
  gaps : Nat
  slotMissed : Nat
  skips : Nat
  steerFailures : Nat
  linkErrors : Nat
  deriving DecidableEq, Repr

/-- The records of the message lane (10, "Record kinds"; bodies in 12.2). -/
inductive OutRecord where
  | assocResult (client : Nat) (code : AssocCode) (cls : Option ClientClass) (suggestion : Option Nat)
      (dropped : List Nat)
  | checkinResult (client ticket seat : Nat) (code : CheckinCode) (station duplicates : Nat)
  | subscribeResult (client stream : Nat) (code : SubscribeCode)
  | steerDirective (client station : Nat)
  | dropClient (client : Nat) (reason : DropReason)
  | streamEnded (stream : Nat)
  | notice (group : NoticeGroup) (entries : List (NoticeKind × Nat))
  | statusReply (reply : StatusReply)
  | reject (kind : Byte) (reason : RejectReason)
  deriving DecidableEq, Repr

/-! ## Handoff Engine and Check-in Unit -/

/-- How far a frame has come, as the RBC last reported it (R47, R103). -/
inductive FrameStatus where
  | queued | inTransmission | ended
  deriving DecidableEq, Repr

/-- The protocol of an in-flight entry (R47). -/
inductive InflightKind where
  | pull | offer
  deriving DecidableEq, Repr

/-- One in-flight entry (R47). `tag` tells the current attempt's frame from every other. (DESIGN CHOICE, safe: log entry
14.) -/
structure Inflight where
  client : Nat
  kind : InflightKind
  peer : Nat
  attempt : Nat
  frame : FrameStatus
  tag : Nat
  timer : Timer
  deriving DecidableEq, Repr

/-- The Handoff Engine: in-flight list (R47), wait queue (R51), result backlog (R50). -/
structure Hoe where
  inflight : List Inflight
  waitQueue : List AssocRequest
  backlog : List OutRecord
  deriving DecidableEq, Repr

/-- One pending claim (R103). `tag` tells the claim's frame from every other. (DESIGN CHOICE, safe: log entry 14.) -/
structure Claim where
  client : Nat
  ticket : Nat
  seat : Nat
  owner : Nat
  frame : FrameStatus
  tag : Nat
  timer : Timer
  deriving DecidableEq, Repr

/-- The Check-in Unit: pending-claim list (R103) and result backlog (R112). -/
structure Cku where
  claims : List Claim
  backlog : List OutRecord
  deriving DecidableEq, Repr

/-! ## Entitlement Store -/

/-- The tiers of a ticket (R76). -/
inductive Tier where
  | general | member | hospitality
  deriving DecidableEq, Repr

/-- What an entry that is not EMPTY holds of its ticket (R76). -/
structure Ticket where
  number : Nat
  serial : Nat
  tier : Tier
  deriving DecidableEq, Repr

/-- The state of a seat entry with the fields that are present in it: an EMPTY entry holds no ticket, and a check-in client
id and time stand exactly in CHECKED_IN (R76). -/
inductive Standing where
  | empty
  | issued (t : Ticket)
  | checkedIn (t : Ticket) (client time : Nat)
  | void (t : Ticket)
  deriving DecidableEq, Repr

/-- One seat entry (R76). -/
structure SeatEntry where
  standing : Standing
  revision : Nat
  duplicates : Nat
  deriving DecidableEq, Repr

/-- The Entitlement Store: the seat entries in seat order, the freeze map (bit i is group i), and two counters (R76,
R78, R93). -/
structure Ens where
  seats : List SeatEntry
  freeze : BitVec 16
  frozenRefusals : Nat
  staleUpdates : Nat
  deriving DecidableEq, Repr

/-! ## Replay Cache and Slot Scheduler -/

/-- What an underrun slot carries (R116). -/
inductive Padding where
  | rep | fill
  deriving DecidableEq, Repr

/-- Placement of a chunk within the slot (R116). -/
inductive Alignment where
  | left | right
  deriving DecidableEq, Repr

/-- The states of a stream entry (R123). -/
inductive StreamState where
  | idle | wanted | live | starved | draining
  deriving DecidableEq, Repr

/-- The cursor's copy of the last emitted chunk (R145). -/
structure EmittedChunk where
  sequence : Nat
  index : Nat
  payload : List Byte
  deriving DecidableEq, Repr

/-- A stream's position in the cache (R116): the current segment by its sequence, the next chunk index, the last
emitted chunk, the last sent sequence. -/
structure Cursor where
  current : Option Nat
  nextIndex : Nat
  lastEmitted : Option EmittedChunk
  lastSent : Option Nat
  deriving DecidableEq, Repr

/-- One stream entry (R116). `born` tells an entry from a later one of the same stream id (R143; DESIGN CHOICE, safe:
log entry 14). -/
structure Stream where
  id : Nat
  priority : Nat
  demand : Nat
  chunks : Nat
  chunkLength : Nat
  padding : Padding
  alignment : Alignment
  subscribers : Nat
  state : StreamState
  wantedSince : Option Nat
  withdrawn : Bool
  cursor : Cursor
  underruns : Nat
  born : Nat
  deriving DecidableEq, Repr

/-- The states of a segment record (R128). -/
inductive SegmentState where
  | filling | complete | sending | spent
  deriving DecidableEq, Repr

/-- One segment record (R127): `chunks` holds the received indices with their bytes, indices rising. -/
structure SegmentRecord where
  stream : Nat
  sequence : Nat
  stamp : Nat
  count : Nat
  length : Nat
  chunks : List (Nat × List Byte)
  state : SegmentState
  deriving DecidableEq, Repr

/-- The Replay Cache: the stream entries in announce order, oldest first, the end reports in the order in which their
places were filled (R116, R122), the segment cache in order of creation (R127), two counters (R135). -/
structure Rpc where
  streams : List Stream
  endReports : List Nat
  cache : List SegmentRecord
  malformed : Nat
  gaps : Nat
  nextBorn : Nat
  deriving DecidableEq, Repr

/-- An assigned place of a slot map (R138). -/
structure Place where
  stream : Nat
  padding : Padding
  alignment : Alignment
  deriving DecidableEq, Repr

/-- One stream of a map's order list with the number of slots given (R138); `born` is the entry the rebuild took. -/
structure OrderEntry where
  stream : Nat
  born : Nat
  given : Nat
  deriving DecidableEq, Repr

/-- A slot map with its build record (R138). -/
structure SlotMap where
  places : List (Option Place)
  order : List OrderEntry
  pool : Nat
  deriving DecidableEq, Repr

/-- The Slot Scheduler (07, first table). -/
structure Sls where
  running : Bool
  slot : Nat
  inForce : Option SlotMap
  nextMap : Option SlotMap
  resetPending : Bool
  slotMissed : Nat
  skips : Nat
  deriving DecidableEq, Repr

/-- The Site Clock (08, first table). -/
structure Sck where
  time : Nat
  phase : Phase
  advancing : Bool
  deriving DecidableEq, Repr

/-! ## Row Bus Controller -/

/-- STEER_DECLINE reasons (12.1). -/
inductive DeclineReason where
  | already | load
  deriving DecidableEq, Repr

/-- Verdict results (R107; codes in 12.1). -/
inductive Verdict where
  | admitted | unknownSeat | voided | notCurrent | duplicate | noOwner
  deriving DecidableEq, Repr

/-- The frames the node sends (R178; payloads in 12.1). -/
inductive OutFrame where
  | loadAdvert (firstSeat seatCount : Nat) (pressure : Int) (monitor : Monitor) (total : Nat) (halved : Bool)
  | ctxPull (client since attempt : Nat)
  | ctxGrant (client since : Nat) (binding : Option Binding) (streams : List Nat)
  | ctxNone (client : Nat)
  | ctxHeld (client : Nat)
  | steerOffer (client : Nat) (boundSeat : Option Nat) (subscriptions : Nat)
  | steerAccept (client : Nat)
  | steerDecline (client : Nat) (reason : DeclineReason)
  | checkinClaim (client ticket seat serial tier : Nat)
  | checkinVerdict (client ticket seat : Nat) (result : Verdict) (duplicates : Nat)
  | checkinNote (seat ticket client time : Nat)
  | incident (seat ticket holder presenter : Nat)
  | resyncRequest (firstSeat seatCount : Nat)
  deriving DecidableEq, Repr

/-- A frame held by the RBC. `tag` tells it from every other frame. (DESIGN CHOICE, safe: log entry 14.) -/
structure TxFrame where
  tag : Nat
  dest : Nat
  body : OutFrame
  deriving DecidableEq, Repr

/-- The phase of the frame in the transmitter (R173); BACKOFF with its number of contention slots. -/
inductive TxPhase where
  | sending
  | backoff (slots : Nat)
  | deferring
  deriving DecidableEq, Repr

/-- The frame in the transmitter with its attempt state (09, first table). -/
structure Transmitter where
  frame : TxFrame
  collisions : Nat
  phase : TxPhase
  deriving DecidableEq, Repr

/-- The Row Bus Controller (09, first table). `carrier`: another station drives the line. `ownRun`: the present run of carrier is
one that the node itself was driving (R165). `idle`: the idle measure in microseconds. `driven`: the bytes the node drives onto
the line. `nextTag`: the next frame's tag. -/
structure Rbc where
  receiver : Bool
  urgent : List TxFrame
  routine : List TxFrame
  transmitter : Option Transmitter
  carrier : Bool
  ownRun : Bool
  idle : Nat
  jamReported : Bool
  crcErrors : Nat
  txDrops : Nat
  driven : List Byte
  nextTag : Nat
  deriving DecidableEq, Repr

/-! ## Radio-side Link and Notice Unit -/

/-- An inbound record as it waits in the inbound queue (R180). -/
structure LinkRecord where
  kind : Byte
  body : List Byte
  deriving DecidableEq, Repr

/-- SLOT_OUT kinds (R149). -/
inductive SlotKind where
  | chunk | rep | fill
  deriving DecidableEq, Repr

/-- A SLOT_OUT record (R149). -/
structure SlotOut where
  slot : Nat
  stream : Nat
  kind : SlotKind
  sequence : Option Nat
  index : Option Nat
  alignment : Alignment
  pad : Nat
  payload : List Byte
  deriving DecidableEq, Repr

/-- The two outbound lanes (R183). -/
inductive Lane where
  | slot | message
  deriving DecidableEq, Repr

/-- The Radio-side Link (10, first table). `sending`: the lane whose head is in sending. `serialOut`: the bytes on the
outbound serial line. -/
structure Rsl where
  inbound : List LinkRecord
  lane : List OutRecord
  slotLane : List SlotOut
  astBacklog : List OutRecord
  linkErrors : Nat
  sending : Option Lane
  basebandReady : Bool
  serialOut : List Byte
  deriving DecidableEq, Repr

/-- The state of one notice kind (R186). -/
structure NoticeCell where
  kind : NoticeKind
  pending : Bool
  enabled : Bool
  counter : Nat
  deriving DecidableEq, Repr

/-- The four group flags (R186). -/
structure GroupFlags where
  cell : Bool
  ticket : Bool
  replay : Bool
  links : Bool
  deriving DecidableEq, Repr

/-- The Notice Unit (R186): a cell for each of the 17 kinds, the group flags, the global enable. -/
structure Ntu where
  kinds : List NoticeCell
  groups : GroupFlags
  globalEnable : Bool
  deriving DecidableEq, Repr

/-! ## The whole state -/

/-- The state of the node. `free` is the model's own counter, to which the constants of Config.lean are applied;
`pending` is the queue of the commands that are waiting, first in first out. -/
structure State where
  cfl : Cfl
  prm : Prm
  nbt : List Neighbour
  ast : Ast
  hoe : Hoe
  ens : Ens
  cku : Cku
  rpc : Rpc
  sls : Sls
  sck : Sck
  rbc : Rbc
  rsl : Rsl
  ntu : Ntu
  free : Nat
  pending : List Instr
  deriving DecidableEq, Repr

/-- The reasons for a fault. There is none: the spec gives the block no stop, and every command of the table has an
effect in every state, so no meaning raises a fault. -/
inductive Fault where
  deriving DecidableEq, Repr

/-- The reasons for a refusal. -/
inductive Refusal where
  /-- Raised by `exec` for a row of the table that has no meaning yet; no arm raises it now. Safe: the model stops where
  the node goes on. -/
  | notModelled (mnemonic : String)
  deriving DecidableEq, Repr

/-! ## Updates of one block -/

/-- The state with another Configuration Loader. -/
def State.withCfl (s : State) (v : Cfl) : State := { s with cfl := v }
/-- The state with another Pressure Monitor. -/
def State.withPrm (s : State) (v : Prm) : State := { s with prm := v }
/-- The state with another Neighbour Table. -/
def State.withNbt (s : State) (v : List Neighbour) : State := { s with nbt := v }
/-- The state with another Association Table. -/
def State.withAst (s : State) (v : Ast) : State := { s with ast := v }
/-- The state with another Handoff Engine. -/
def State.withHoe (s : State) (v : Hoe) : State := { s with hoe := v }
/-- The state with another Entitlement Store. -/
def State.withEns (s : State) (v : Ens) : State := { s with ens := v }
/-- The state with another Check-in Unit. -/
def State.withCku (s : State) (v : Cku) : State := { s with cku := v }
/-- The state with another Replay Cache. -/
def State.withRpc (s : State) (v : Rpc) : State := { s with rpc := v }
/-- The state with another Slot Scheduler. -/
def State.withSls (s : State) (v : Sls) : State := { s with sls := v }
/-- The state with another Site Clock. -/
def State.withSck (s : State) (v : Sck) : State := { s with sck := v }
/-- The state with another Row Bus Controller. -/
def State.withRbc (s : State) (v : Rbc) : State := { s with rbc := v }
/-- The state with another Radio-side Link. -/
def State.withRsl (s : State) (v : Rsl) : State := { s with rsl := v }
/-- The state with another Notice Unit. -/
def State.withNtu (s : State) (v : Ntu) : State := { s with ntu := v }
/-- The state with another counter of free values. -/
def State.withFree (s : State) (v : Nat) : State := { s with free := v }
/-- The state with another queue of commands. -/
def State.withPending (s : State) (v : List Instr) : State := { s with pending := v }

/-! ## After a full reset -/

/-- Every notice kind in the order of the codes (12.2). -/
def NoticeKind.all : List NoticeKind :=
  [.pressureHigh, .pressureCritical, .pressureNormal, .neighbourLost, .duplicate, .frozenUpdate, .unfreezeRefused,
   .ticketReissued, .underrun, .cacheFull, .streamTableFull, .segmentGap, .txDrop, .addressClash, .jammed,
   .clockDisagree, .contextLost]

/-- The node right after a full reset (R6, R46, R75, R94, R115, R136, R154, R163, R179, R185, R190, R192), with no
command waiting. The start mode is normal, the line carries no carrier and the baseband's line shows ready. (DESIGN
CHOICE, unsafe: log entry 13.) -/
def State.reset : State where
  cfl := { node := .loading, reason := none, config := none, clamped := false, service := false, listenTimer := none }
  prm := { pressure := -1600, monitor := .normal, restoreHold := 0, lastAdvert := none, advertTimer := none,
           holdOff := none, heldTrigger := false }
  nbt := []
  ast := { records := [], steerFailures := 0 }
  hoe := { inflight := [], waitQueue := [], backlog := [] }
  ens := { seats := [], freeze := 0, frozenRefusals := 0, staleUpdates := 0 }
  cku := { claims := [], backlog := [] }
  rpc := { streams := [], endReports := [], cache := [], malformed := 0, gaps := 0, nextBorn := 0 }
  sls := { running := false, slot := 0, inForce := none, nextMap := none, resetPending := false, slotMissed := 0,
           skips := 0 }
  sck := { time := 0, phase := .unknown, advancing := false }
  rbc := { receiver := false, urgent := [], routine := [], transmitter := none, carrier := false, ownRun := false,
           idle := 0, jamReported := false, crcErrors := 0, txDrops := 0, driven := [], nextTag := 0 }
  rsl := { inbound := [], lane := [], slotLane := [], astBacklog := [], linkErrors := 0, sending := none,
           basebandReady := true, serialOut := [] }
  ntu := { kinds := NoticeKind.all.map fun k => { kind := k, pending := false, enabled := false, counter := 0 },
           groups := { cell := false, ticket := false, replay := false, links := false }, globalEnable := false }
  free := 0
  pending := []

end Sys2Proof.Machine
end

