-- ==== Sys2Proof/Machine/Layouts.lean ====
section
/-! DEFINITION. The codes of the enumerated values and the bytes that the node sends: row-bus frames (12.1) and link records (12.2). -/

namespace Sys2Proof.Machine

/-! ## Enumerated codes -/

/-- Monitor state codes (12.1). -/
def Monitor.code : Monitor → Nat
  | .normal => 0 | .high => 1 | .critical => 2

/-- Match phase codes, which are the positions of R158 (12.1). -/
def Phase.code : Phase → Nat
  | .unknown => 0 | .preGates => 1 | .gatesOpen => 2 | .firstHalf => 3 | .interval => 4 | .secondHalf => 5
  | .extraTime => 6 | .penalties => 7 | .fullTime => 8

/-- The phase of a code, if it is one of the nine (12.1, R202). -/
def phaseOfCode (n : Nat) : Option Phase :=
  [Phase.unknown, .preGates, .gatesOpen, .firstHalf, .interval, .secondHalf, .extraTime, .penalties, .fullTime][n]?

/-- The tier of a code (12.1). -/
def tierOfCode (n : Nat) : Option Tier := [Tier.general, .member, .hospitality][n]?

/-- Verdict result codes (12.1). -/
def Verdict.code : Verdict → Nat
  | .admitted => 0 | .unknownSeat => 1 | .voided => 2 | .notCurrent => 3 | .duplicate => 4 | .noOwner => 5

/-- The verdict result of a code (12.1). -/
def verdictOfCode (n : Nat) : Option Verdict :=
  [Verdict.admitted, .unknownSeat, .voided, .notCurrent, .duplicate, .noOwner][n]?

/-- Decline reason codes (12.1). -/
def DeclineReason.code : DeclineReason → Nat
  | .already => 0 | .load => 1

/-- Padding of a code (12.1). -/
def paddingOfCode (n : Nat) : Option Padding := [Padding.rep, .fill][n]?

/-- Alignment of a code (12.1). -/
def alignmentOfCode (n : Nat) : Option Alignment := [Alignment.left, .right][n]?

/-- Alignment codes (12.1). -/
def Alignment.code : Alignment → Nat
  | .left => 0 | .right => 1

/-- SLOT_OUT kind codes (12.1). -/
def SlotKind.code : SlotKind → Nat
  | .chunk => 0 | .rep => 1 | .fill => 2

/-- ASSOC_RESULT codes (12.2). -/
def AssocCode.code : AssocCode → Nat
  | .accepted => 0 | .freshForeign => 1 | .freshNoClock => 2 | .acceptedWithContext => 3 | .acceptedFresh => 4
  | .refusedHeldElsewhere => 5 | .refusedFull => 6 | .refusedBusy => 7 | .refusedStarting => 8
  | .refusedUnconfigured => 9 | .refusedMuted => 10

/-- Class codes (12.2). -/
def ClientClass.code : ClientClass → Nat
  | .guest => 0 | .claimant => 1 | .home => 2

/-- CHECKIN_RESULT codes (12.2). -/
def CheckinCode.code : CheckinCode → Nat
  | .admitted => 0 | .unknownSeat => 1 | .voided => 2 | .notCurrent => 3 | .duplicate => 4 | .noOwner => 5
  | .ownerSilent => 6 | .busy => 7 | .lockedOut => 8 | .wrongSection => 9 | .badCode => 10 | .notAssociated => 11

/-- SUBSCRIBE_RESULT codes (12.2). -/
def SubscribeCode.code : SubscribeCode → Nat
  | .subscribed => 0 | .unsubscribed => 1 | .notAssociated => 2 | .unknownStream => 3 | .streamEnding => 4
  | .already => 5 | .listFull => 6 | .notSubscribed => 7

/-- Drop reason codes (12.2). -/
def DropReason.code : DropReason → Nat
  | .idle => 0 | .unverifiedSeat => 1 | .cellFull => 2 | .moved => 3

/-- Reject reason codes (12.2). -/
def RejectReason.code : RejectReason → Nat
  | .unknownKind => 0 | .badLength => 1

/-- Notice group codes (12.2). -/
def NoticeGroup.code : NoticeGroup → Nat
  | .cell => 0 | .ticket => 1 | .replay => 2 | .links => 3

/-- Notice kind codes (12.2). -/
def NoticeKind.code : NoticeKind → Nat
  | .pressureHigh => 0 | .pressureCritical => 1 | .pressureNormal => 2 | .neighbourLost => 3 | .duplicate => 4
  | .frozenUpdate => 5 | .unfreezeRefused => 6 | .ticketReissued => 7 | .underrun => 8 | .cacheFull => 9
  | .streamTableFull => 10 | .segmentGap => 11 | .txDrop => 12 | .addressClash => 13 | .jammed => 14
  | .clockDisagree => 15 | .contextLost => 16

/-- Node state codes (12.2). -/
def NodeState.code : NodeState → Nat
  | .loading => 0 | .unconfigured => 1 | .listening => 2 | .joined => 3 | .muted => 4

/-- Fault reason codes; 0 is the absent reason (12.2). -/
def faultReasonCode : Option FaultReason → Nat
  | none => 0
  | some .noImage => 1 | some .badSum => 2 | some .badFormat => 3 | some .badAddress => 4
  | some .badSection => 5 | some .badBlock => 6

/-- The code of a flag. -/
def flagCode (b : Bool) : Nat := if b then 1 else 0

/-! ## Row-bus frames -/

/-- The kind code of a frame the node sends (12.1). -/
def OutFrame.kindCode : OutFrame → Nat
  | .loadAdvert .. => 1 | .ctxPull .. => 2 | .ctxGrant .. => 3 | .ctxNone .. => 4 | .ctxHeld .. => 5
  | .steerOffer .. => 6 | .steerAccept .. => 7 | .steerDecline .. => 8 | .checkinClaim .. => 9
  | .checkinVerdict .. => 10 | .checkinNote .. => 11 | .incident .. => 12 | .resyncRequest .. => 13

/-- The payload of a frame the node sends (12.1). -/
def OutFrame.payload : OutFrame → List Byte
  | .loadAdvert first count p m total halved =>
      beBytes 2 first ++ beBytes 2 count ++ signedBytes p ++ beBytes 1 m.code ++ beBytes 1 total ++
        beBytes 1 (flagCode halved)
  | .ctxPull client since attempt => beBytes 6 client ++ beBytes 4 since ++ beBytes 1 attempt
  | .ctxGrant client since binding streams =>
      beBytes 6 client ++ beBytes 4 since ++
        (match binding with
          | none => beBytes 7 0
          | some b => beBytes 1 1 ++ beBytes 4 b.ticket ++ beBytes 2 b.seat) ++
        beBytes 1 streams.length ++ streams.flatMap (beBytes 1)
  | .ctxNone client | .ctxHeld client | .steerAccept client => beBytes 6 client
  | .steerOffer client boundSeat subs => beBytes 6 client ++ optionalBytes 2 boundSeat ++ beBytes 1 subs
  | .steerDecline client reason => beBytes 6 client ++ beBytes 1 reason.code
  | .checkinClaim client ticket seat serial tier =>
      beBytes 6 client ++ beBytes 4 ticket ++ beBytes 2 seat ++ beBytes 2 serial ++ beBytes 1 tier
  | .checkinVerdict client ticket seat result dup =>
      beBytes 6 client ++ beBytes 4 ticket ++ beBytes 2 seat ++ beBytes 1 result.code ++ beBytes 1 dup
  | .checkinNote seat ticket client time =>
      beBytes 2 seat ++ beBytes 4 ticket ++ beBytes 6 client ++ beBytes 4 time
  | .incident seat ticket holder presenter =>
      beBytes 2 seat ++ beBytes 4 ticket ++ beBytes 6 holder ++ beBytes 6 presenter
  | .resyncRequest first count => beBytes 2 first ++ beBytes 2 count

/-- The bytes of a frame on the line: header with the node's own station as source (R178), payload, and the frame check
(R201). -/
def TxFrame.wire (station : Nat) (f : TxFrame) : List Byte :=
  let covered := beBytes 1 f.dest ++ beBytes 1 station ++ beBytes 1 f.body.kindCode ++
    beBytes 2 f.body.payload.length ++ f.body.payload
  covered ++ beBytes 2 (crc16 frameCheckStart covered).toNat

/-! ## Link records -/

/-- A link record's bytes: kind, length, body and a check that brings the sum of all bytes to 0 modulo 256 (R180). -/
def linkBytes (kind : Nat) (body : List Byte) : List Byte :=
  let covered := beBytes 1 kind ++ beBytes 2 body.length ++ body
  covered ++ [-(byteSum covered)]

/-- The kind code of a message-lane record (12.2). -/
def OutRecord.kindCode : OutRecord → Nat
  | .assocResult .. => 128 | .checkinResult .. => 129 | .subscribeResult .. => 130 | .steerDirective .. => 131
  | .dropClient .. => 132 | .streamEnded .. => 133 | .notice .. => 135 | .statusReply .. => 136 | .reject .. => 137

/-- The body of a STATUS_REPLY; a field given as absent is sent as 0 (12.2). -/
def StatusReply.body (r : StatusReply) : List Byte :=
  beBytes 1 r.node.code ++ beBytes 1 (faultReasonCode r.reason) ++ beBytes 1 (r.station.getD 0) ++
  beBytes 1 (r.sectionId.getD 0) ++ beBytes 2 (r.firstSeat.getD 0) ++ beBytes 2 (r.seatCount.getD 0) ++
  beBytes 1 (flagCode r.clamped) ++ beBytes 1 (flagCode r.service) ++ signedBytes r.pressure ++
  beBytes 1 r.monitor.code ++ beBytes 1 r.pool ++ beBytes 1 r.restoreHold ++ beBytes 1 r.assignedSlots ++
  beBytes 1 r.clients ++ beBytes 1 r.guests ++ r.byClass.flatMap (beBytes 1) ++ r.byState.flatMap (beBytes 1) ++
  beBytes 1 r.inflight ++ beBytes 1 r.waiting ++ beBytes 1 r.claims ++ beBytes 2 r.freeze.toNat ++
  beBytes 1 r.phase.code ++ beBytes 4 r.siteTime ++ beBytes 2 r.crcErrors ++ beBytes 2 r.txDrops ++
  beBytes 2 r.frozenRefusals ++ beBytes 2 r.staleUpdates ++ beBytes 2 r.malformed ++ beBytes 2 r.gaps ++
  beBytes 2 r.slotMissed ++ beBytes 2 r.skips ++ beBytes 2 r.steerFailures ++ beBytes 2 r.linkErrors

/-- The body of a message-lane record (12.2). -/
def OutRecord.body : OutRecord → List Byte
  | .assocResult client code cls suggestion dropped =>
      beBytes 6 client ++ beBytes 1 code.code ++ beBytes 1 ((cls.map ClientClass.code).getD 0) ++
        optionalBytes 1 suggestion ++ beBytes 1 dropped.length ++ dropped.flatMap (beBytes 1)
  | .checkinResult client ticket seat code station dup =>
      beBytes 6 client ++ beBytes 4 ticket ++ beBytes 2 seat ++ beBytes 1 code.code ++ beBytes 1 station ++ beBytes 1 dup
  | .subscribeResult client stream code => beBytes 6 client ++ beBytes 1 stream ++ beBytes 1 code.code
  | .steerDirective client station => beBytes 6 client ++ beBytes 1 station
  | .dropClient client reason => beBytes 6 client ++ beBytes 1 reason.code
  | .streamEnded stream => beBytes 1 stream
  | .notice group entries =>
      beBytes 1 group.code ++ beBytes 1 entries.length ++
        entries.flatMap fun e => beBytes 1 e.1.code ++ beBytes 1 e.2
  | .statusReply reply => reply.body
  | .reject kind reason => [kind] ++ beBytes 1 reason.code

/-- The bytes of a message-lane record on the serial line. -/
def OutRecord.bytes (r : OutRecord) : List Byte := linkBytes r.kindCode r.body

/-- The body of a SLOT_OUT record (12.2): absent sequence and chunk index are 0. -/
def SlotOut.body (r : SlotOut) : List Byte :=
  beBytes 1 r.slot ++ beBytes 1 r.stream ++ beBytes 1 r.kind.code ++ beBytes 2 (r.sequence.getD 0) ++
    beBytes 1 (r.index.getD 0) ++ beBytes 1 r.alignment.code ++ beBytes 2 r.pad ++ r.payload

/-- The bytes of a SLOT_OUT record on the serial line. -/
def SlotOut.bytes (r : SlotOut) : List Byte := linkBytes 134 r.body

end Sys2Proof.Machine
end

