-- ==== Sys2Proof/Machine/Operands.lean ====
section
/-! DEFINITION. The operand forms: the payload of each received frame kind (12.1, R201, R202) and the body of each inbound record
kind (12.2, R181). Each reader answers `none` where the bytes do not fit the layout or hold a code that R202 discards. -/

namespace Sys2Proof.Machine

/-! ## Frame payloads -/

/-- What the NBT keeps of a LOAD_ADVERT (R16, R17). -/
structure AdvertPayload where
  firstSeat : Nat
  seatCount : Nat
  pressure : Int
  deriving DecidableEq, Repr

/-- LOAD_ADVERT, 9 bytes; monitor state and pool-halved codes out of range discard it (R202). -/
def readAdvert (p : List Byte) : Option AdvertPayload :=
  if p.length = 9 ∧ fieldAt p 6 1 ≤ 2 ∧ fieldAt p 8 1 ≤ 1 then
    some { firstSeat := fieldAt p 0 2, seatCount := fieldAt p 2 2, pressure := signed16 (fieldAt p 4 2) }
  else none

/-- CTX_PULL, 11 bytes: client id and since-time; the attempt byte is not read (R60). -/
def readPull (p : List Byte) : Option (Nat × Nat) :=
  if p.length = 11 then some (fieldAt p 0 6, fieldAt p 6 4) else none

/-- What a CTX_GRANT carries (R58). -/
structure GrantPayload where
  client : Nat
  since : Nat
  binding : Option Binding
  streams : List Nat
  deriving DecidableEq, Repr

/-- CTX_GRANT, 18 + n bytes with n in 0..4 (R201). -/
def readGrant (p : List Byte) : Option GrantPayload :=
  let n := fieldAt p 17 1
  if p.length = 18 + n ∧ n ≤ 4 ∧ fieldAt p 10 1 ≤ 1 then
    some { client := fieldAt p 0 6, since := fieldAt p 6 4,
           binding := if fieldAt p 10 1 = 1 then some { ticket := fieldAt p 11 4, seat := fieldAt p 15 2 } else none,
           streams := (p.drop 18).map BitVec.toNat }
  else none

/-- CTX_NONE, CTX_HELD and STEER_ACCEPT, 6 bytes: the client id. -/
def readClient (p : List Byte) : Option Nat :=
  if p.length = 6 then some (fieldAt p 0 6) else none

/-- STEER_DECLINE, 7 bytes; any reason is taken as a decline (R202). -/
def readDecline (p : List Byte) : Option Nat :=
  if p.length = 7 then some (fieldAt p 0 6) else none

/-- STEER_OFFER, 10 bytes: client id and bound seat; the subscription count is not read (R71). -/
def readOffer (p : List Byte) : Option (Nat × Option Nat) :=
  if p.length = 10 then (optionalAt p 6 2).map fun seat => (fieldAt p 0 6, seat) else none

/-- What a CHECKIN_CLAIM carries; the tier is carried and not examined (R202). -/
structure ClaimPayload where
  client : Nat
  ticket : Nat
  seat : Nat
  serial : Nat
  deriving DecidableEq, Repr

/-- CHECKIN_CLAIM, 15 bytes. -/
def readClaim (p : List Byte) : Option ClaimPayload :=
  if p.length = 15 then
    some { client := fieldAt p 0 6, ticket := fieldAt p 6 4, seat := fieldAt p 10 2, serial := fieldAt p 12 2 }
  else none

/-- What a CHECKIN_VERDICT carries (R107). -/
structure VerdictPayload where
  client : Nat
  ticket : Nat
  seat : Nat
  result : Verdict
  duplicates : Nat
  deriving DecidableEq, Repr

/-- CHECKIN_VERDICT, 14 bytes; a result out of range, or for DUPLICATE a count of 0 or above 15, discards it (R202). -/
def readVerdict (p : List Byte) : Option VerdictPayload :=
  if p.length = 14 then
    (verdictOfCode (fieldAt p 12 1)).bind fun r =>
      if r = .duplicate ∧ ¬ (1 ≤ fieldAt p 13 1 ∧ fieldAt p 13 1 ≤ 15) then none
      else some { client := fieldAt p 0 6, ticket := fieldAt p 6 4, seat := fieldAt p 10 2, result := r,
                  duplicates := fieldAt p 13 1 }
  else none

/-- The actions of an ENTITLEMENT frame (04, section 4.3). -/
inductive Action where
  | issue | reissue | void | clearCheckin | resyncFill
  deriving DecidableEq, Repr

/-- The action of a code (12.1). -/
def actionOfCode (n : Nat) : Option Action :=
  [Action.issue, .reissue, .void, .clearCheckin, .resyncFill][n]?

/-- The states a RESYNC_FILL carries (12.1). -/
inductive FillState where
  | issued | checkedIn | void
  deriving DecidableEq, Repr

/-- The fill state of a code (12.1). -/
def fillStateOfCode : Nat → Option FillState
  | 1 => some .issued | 2 => some .checkedIn | 3 => some .void | _ => none

/-- What an ENTITLEMENT frame carries (04, section 4.3). `fill` is read for RESYNC_FILL only. -/
structure Entitlement where
  seat : Nat
  action : Action
  ticket : Ticket
  revision : Nat
  fill : Option FillState
  client : Option Nat
  time : Option Nat
  deriving DecidableEq, Repr

/-- ENTITLEMENT, 25 bytes; action, tier, or for RESYNC_FILL state, out of range discards it (R202). -/
def readEntitlement (p : List Byte) : Option Entitlement :=
  if p.length = 25 then
    match actionOfCode (fieldAt p 2 1), tierOfCode (fieldAt p 9 1), optionalAt p 13 6, optionalAt p 20 4 with
    | some a, some tier, some client, some time =>
      let fill := fillStateOfCode (fieldAt p 12 1)
      if a = .resyncFill ∧ fill = none then none
      else some { seat := fieldAt p 0 2, action := a,
                  ticket := { number := fieldAt p 3 4, serial := fieldAt p 7 2, tier := tier },
                  revision := fieldAt p 10 2, fill := fill, client := client, time := time }
    | _, _, _, _ => none
  else none

/-- FREEZE and UNFREEZE, 4 bytes: target first seat and 16-group mask. -/
def readFreeze (p : List Byte) : Option (Nat × BitVec 16) :=
  if p.length = 4 then some (fieldAt p 0 2, BitVec.ofNat 16 (fieldAt p 2 2)) else none

/-- CLOCK, 5 bytes: site time, and the phase if its code is one of the nine (R202). -/
def readClock (p : List Byte) : Option (Nat × Option Phase) :=
  if p.length = 5 then some (fieldAt p 0 4, phaseOfCode (fieldAt p 4 1)) else none

/-- What a STREAM_ANNOUNCE carries, brought into range by R117; demand 0 stands for a withdrawal. -/
structure Announce where
  id : Nat
  priority : Nat
  demand : Nat
  chunks : Nat
  chunkLength : Nat
  padding : Padding
  alignment : Alignment
  deriving DecidableEq, Repr

/-- STREAM_ANNOUNCE, 8 bytes, with the adjustments of R117; a priority, padding or alignment code out of range ignores
the announce (R202). -/
def readAnnounce (p : List Byte) : Option Announce :=
  if p.length = 8 ∧ fieldAt p 1 1 ≤ 3 then
    match paddingOfCode (fieldAt p 6 1), alignmentOfCode (fieldAt p 7 1) with
    | some padding, some alignment =>
      some { id := fieldAt p 0 1, priority := fieldAt p 1 1, demand := min (fieldAt p 2 1) 6,
             chunks := max 1 (min (fieldAt p 3 1) 64), chunkLength := max 64 (min (fieldAt p 4 2) 1024),
             padding := padding, alignment := alignment }
    | _, _ => none
  else none

/-- What a SEGMENT frame carries (06, section 6.5). -/
structure Chunk where
  stream : Nat
  sequence : Nat
  index : Nat
  count : Nat
  stamp : Nat
  payload : List Byte
  deriving DecidableEq, Repr

/-- SEGMENT, at least 10 bytes (R201). -/
def readSegment (p : List Byte) : Option Chunk :=
  if 10 ≤ p.length then
    some { stream := fieldAt p 0 1, sequence := fieldAt p 1 2, index := fieldAt p 3 1, count := fieldAt p 4 1,
           stamp := fieldAt p 5 4, payload := p.drop 9 }
  else none

/-! ## Link record bodies -/

/-- R202: a previous station of 0 or above 31 is taken as absent. -/
def stationInRange (v : Option Nat) : Option Nat := v.filter fun n => 1 ≤ n ∧ n ≤ 31

/-- ASSOCIATE, 14 + n bytes with n in 0..4 (12.2). -/
def readAssociate (b : List Byte) : Option AssocRequest :=
  let n := fieldAt b 13 1
  if b.length = 14 + n ∧ n ≤ 4 then
    match optionalAt b 6 1, optionalAt b 8 1, optionalAt b 10 2 with
    | some station, some sectionId, some seat =>
      some { client := fieldAt b 0 6, prevStation := stationInRange station, prevSection := sectionId,
             declaredSeat := seat, heard := (b.drop 14).map BitVec.toNat }
    | _, _, _ => none
  else none

/-- HEARD, 7 + n bytes with n in 0..4: client id and heard list (12.2). -/
def readHeard (b : List Byte) : Option (Nat × List Nat) :=
  let n := fieldAt b 6 1
  if b.length = 7 + n ∧ n ≤ 4 then some (fieldAt b 0 6, (b.drop 7).map BitVec.toNat) else none

/-- DEPART, 6 bytes (12.2). -/
def readDepart (b : List Byte) : Option Nat := readClient b

/-- What a PRESENT_TICKET carries (05, section 5.1). -/
structure Presentation where
  client : Nat
  ticket : Nat
  seat : Nat
  sectionId : Nat
  tier : Nat
  serial : Nat
  code : BitVec 16
  deriving DecidableEq, Repr

/-- PRESENT_TICKET, 18 bytes (12.2). -/
def readPresent (b : List Byte) : Option Presentation :=
  if b.length = 18 then
    some { client := fieldAt b 0 6, ticket := fieldAt b 6 4, seat := fieldAt b 10 2, sectionId := fieldAt b 12 1,
           tier := fieldAt b 13 1, serial := fieldAt b 14 2, code := BitVec.ofNat 16 (fieldAt b 16 2) }
  else none

/-- SUBSCRIBE and UNSUBSCRIBE, 7 bytes: client id and stream id (12.2). -/
def readSubscribe (b : List Byte) : Option (Nat × Nat) :=
  if b.length = 7 then some (fieldAt b 0 6, fieldAt b 6 1) else none

/-- REPLAY_RESET and STATUS_QUERY, 0 bytes (12.2). -/
def readNothing (b : List Byte) : Option Unit := if b.length = 0 then some () else none

/-- The kind mask of a NOTICE_CONTROL, 5 bytes (12.2). -/
def readNotice (b : List Byte) : Option (BitVec 32) :=
  if b.length = 5 then some (BitVec.ofNat 32 (fieldAt b 1 4)) else none

/-- The operation byte of a NOTICE_CONTROL body, 255 where the body is empty. (DESIGN CHOICE, safe: log entry 23.) -/
def noticeOperation (b : List Byte) : Nat := if b.length = 0 then 255 else fieldAt b 0 1

/-- 12.2: the mask names the notice kind whose code is the bit's number. -/
def maskNames (mask : BitVec 32) (k : NoticeKind) : Bool := mask.getLsbD k.code

/-- The kinds of record the node takes (12.2). -/
def knownRecordKind (kind : Byte) : Bool := 64 ≤ kind.toNat && kind.toNat ≤ 72

end Sys2Proof.Machine
end

