-- ==== Sys2Proof/Machine/Flags.lean ====
section
/-! DEFINITION. Flags and counters: the saturating counters, the notice flags of the Notice Unit (R186 to R189). -/

namespace Sys2Proof.Machine

/-! ## Saturating counters -/

/-- One count more, staying at `top` once it has reached it. -/
def satAdd (top n k : Nat) : Nat := min top (n + k)

/-- A node-wide counter, 0..65535, saturating (R45, R93, R135, R153, R179, R185). -/
def count16 (n : Nat) : Nat := satAdd 65535 n 1

/-! ## Notice flags -/

/-- The group of a kind (R186). -/
def NoticeKind.group : NoticeKind → NoticeGroup
  | .pressureHigh | .pressureCritical | .pressureNormal | .neighbourLost => .cell
  | .duplicate | .frozenUpdate | .unfreezeRefused | .ticketReissued => .ticket
  | .underrun | .cacheFull | .streamTableFull | .segmentGap => .replay
  | .txDrop | .addressClash | .jammed | .clockDisagree | .contextLost => .links

/-- A group's flag. -/
def GroupFlags.get (g : GroupFlags) : NoticeGroup → Bool
  | .cell => g.cell | .ticket => g.ticket | .replay => g.replay | .links => g.links

/-- The flags with one group's flag put to `b`. -/
def GroupFlags.put (g : GroupFlags) (k : NoticeGroup) (b : Bool) : GroupFlags :=
  match k with
  | .cell => { g with cell := b } | .ticket => { g with ticket := b }
  | .replay => { g with replay := b } | .links => { g with links := b }

/-- The flags recomputed group by group. -/
def GroupFlags.mapGroups (f : NoticeGroup → Bool → Bool) (g : GroupFlags) : GroupFlags :=
  { cell := f .cell g.cell, ticket := f .ticket g.ticket, replay := f .replay g.replay, links := f .links g.links }

/-- The groups in the order of delivery (R188). -/
def NoticeGroup.all : List NoticeGroup := [.cell, .ticket, .replay, .links]

/-- The cell of a kind. -/
def Ntu.cell (n : Ntu) (k : NoticeKind) : NoticeCell :=
  (n.kinds.find? fun c => c.kind == k).getD { kind := k, pending := false, enabled := false, counter := 0 }

/-- The unit with the cell of one kind changed. -/
def Ntu.modify (n : Ntu) (k : NoticeKind) (f : NoticeCell → NoticeCell) : Ntu :=
  { n with kinds := n.kinds.map fun c => if c.kind = k then f c else c }

/-- One occurrence at a cell: the counter rises to at most 255 and the pending flag is set (R186). -/
def NoticeCell.occur (c : NoticeCell) : NoticeCell :=
  { c with pending := true, counter := satAdd 255 c.counter 1 }

/-- R186: one occurrence of a kind. The group flag is set when the pending flag was clear and the kind is enabled. -/
def Ntu.occur (k : NoticeKind) (n : Ntu) : Ntu :=
  let fires := !(n.cell k).pending && (n.cell k).enabled
  { n.modify k NoticeCell.occur with groups := if fires then n.groups.put k.group true else n.groups }

/-- Some kind of the group is pending. -/
def Ntu.groupPending (n : Ntu) (g : NoticeGroup) : Bool :=
  n.kinds.any fun c => c.kind.group == g && c.pending

/-- R187, ENABLE: each named kind's enable is on; a named kind that was off and pending sets its group's flag. -/
def Ntu.enable (mask : BitVec 32) (n : Ntu) : Ntu :=
  { n with
    kinds := n.kinds.map fun c => if maskNames mask c.kind then { c with enabled := true } else c
    groups := n.groups.mapGroups fun g b =>
      b || n.kinds.any fun c => c.kind.group == g && maskNames mask c.kind && !c.enabled && c.pending }

/-- R187, DISABLE: each named kind's enable is off. -/
def Ntu.disable (mask : BitVec 32) (n : Ntu) : Ntu :=
  { n with kinds := n.kinds.map fun c => if maskNames mask c.kind then { c with enabled := false } else c }

/-- R189, ACK: each named kind's pending flag is clear, and so is the flag of a group left with no pending kind. -/
def Ntu.ack (mask : BitVec 32) (n : Ntu) : Ntu :=
  let acked : Ntu := { n with kinds := n.kinds.map fun c => if maskNames mask c.kind then { c with pending := false } else c }
  { acked with groups := n.groups.mapGroups fun g b => b && acked.groupPending g }

/-- R189, CLEAR_ALL: every pending flag, group flag and counter is clear; the enables stay. -/
def Ntu.clearAll (n : Ntu) : Ntu :=
  { n with
    kinds := n.kinds.map fun c => { c with pending := false, counter := 0 }
    groups := n.groups.mapGroups fun _ _ => false }

/-- R188: the group that is delivered next, if delivery is on and some group flag is set. -/
def Ntu.nextGroup (n : Ntu) : Option NoticeGroup :=
  if n.globalEnable then NoticeGroup.all.find? n.groups.get else none

/-- R188: what a NOTICE for a group reports: its pending kinds with their counters, in the order of the codes. -/
def Ntu.entries (n : Ntu) (g : NoticeGroup) : List (NoticeKind × Nat) :=
  (n.kinds.filter fun c => c.kind.group == g && c.pending).map fun c => (c.kind, c.counter)

end Sys2Proof.Machine
end

