-- ==== Sys2Proof/Machine/Ops.lean ====
section
/-! DEFINITION. The shared operations of the blocks: reads of the configuration, notices, the bus queues (R168 to R170), the
places of the lanes (R183, R184), the client records (R22 to R25) and the in-flight and claim entries (R48, R105). -/

namespace Sys2Proof.Machine

/-! ## Reads -/

/-- The node's own station address, 0 while the configuration values are absent. -/
def State.station (s : State) : Nat := (s.cfl.config.map NodeConfig.station).getD 0

/-- R192: Rmax reads as 0 while the configuration values are absent. -/
def State.rmax (s : State) : Nat := (s.cfl.config.map NodeConfig.rmax).getD 0

/-- The client capacity C, 0 while the configuration values are absent. -/
def State.capacity (s : State) : Nat := (s.cfl.config.map NodeConfig.capacity).getD 0

/-- The number of slots per frame S, 0 while the configuration values are absent. -/
def State.slots (s : State) : Nat := (s.cfl.config.map NodeConfig.slots).getD 0

/-- The states in which the blocks take feed frames (R79, R90, R117, R129, R156): LISTENING, JOINED and MUTED. -/
def State.hearing (s : State) : Bool :=
  s.cfl.node == .listening || s.cfl.node == .joined || s.cfl.node == .muted

/-- The total N (R22). -/
def State.clients (s : State) : Nat := s.ast.records.length

/-- The guest count (R22). -/
def State.guests (s : State) : Nat := s.ast.records.countP fun r => r.cls == .guest

/-- R, the number of assigned places of the slot map in force (R138). -/
def State.assigned (s : State) : Nat :=
  (s.sls.inForce.map fun m => m.places.countP Option.isSome).getD 0

/-- The largest table of client records (R22). -/
def tableLimit : Nat := 160

/-! ## Notices -/

/-- R186: a block makes a kind pending. -/
def raise (k : NoticeKind) (s : State) : State := s.withNtu (s.ntu.occur k)

/-! ## The bus queues -/

/-- The class of a frame the node sends (R178). -/
def OutFrame.isUrgent : OutFrame → Bool
  | .loadAdvert .. | .checkinNote .. | .incident .. | .resyncRequest .. => false
  | _ => true

/-- The frame is a LOAD_ADVERT. -/
def OutFrame.isAdvert : OutFrame → Bool
  | .loadAdvert .. => true
  | _ => false

/-- R168: each queue holds at most 8 frames. -/
def queueLimit : Nat := 8

/-- R169: the waiting advert gives its place to the new one. -/
def replaceAdvert (f : TxFrame) (q : List TxFrame) : List TxFrame :=
  q.map fun g => if g.body.isAdvert then f else g

/-- R168: a request to queue a frame. The answer is the tag of the accepted frame, or `none` for a refusal, by the first
row of the table that fits. -/
def Rbc.offer (joined : Bool) (dest : Nat) (body : OutFrame) (r : Rbc) : Rbc × Option Nat :=
  let f : TxFrame := { tag := r.nextTag, dest := dest, body := body }
  if !joined then (r, none)
  else if body.isAdvert && r.routine.any (fun g => g.body.isAdvert) then
    ({ r with routine := replaceAdvert f r.routine, nextTag := r.nextTag + 1 }, some r.nextTag)
  else if body.isUrgent then
    if r.urgent.length < queueLimit then
      ({ r with urgent := r.urgent ++ [f], nextTag := r.nextTag + 1 }, some r.nextTag)
    else ({ r with txDrops := count16 r.txDrops }, none)
  else if r.routine.length < queueLimit then
    ({ r with routine := r.routine ++ [f], nextTag := r.nextTag + 1 }, some r.nextTag)
  else ({ r with txDrops := count16 r.txDrops }, none)

/-- The RBC after a request to queue a frame (R168). -/
def queueFrame (dest : Nat) (body : OutFrame) (s : State) : State :=
  s.withRbc (s.rbc.offer (s.cfl.node == .joined) dest body).1

/-- The RBC's answer to a request to queue a frame (R168): the accepted frame's tag, or a refusal. -/
def queueAnswer (dest : Nat) (body : OutFrame) (s : State) : Option Nat :=
  (s.rbc.offer (s.cfl.node == .joined) dest body).2

/-- R170: a withdrawal takes a frame out of its queue, if it is still there. -/
def Rbc.withdraw (tag : Nat) (r : Rbc) : Rbc :=
  { r with urgent := r.urgent.filter fun f => f.tag ≠ tag, routine := r.routine.filter fun f => f.tag ≠ tag }

/-- R170: an originator asks for the withdrawal of a frame. -/
def withdrawFrame (tag : Nat) (s : State) : State := s.withRbc (s.rbc.withdraw tag)

/-! ## The lanes -/

/-- R184: the message lane has 64 places. -/
def laneLimit : Nat := 64

/-- The free places of the message lane. -/
def laneRoom (s : State) : Nat := laneLimit - s.rsl.lane.length

/-- R183: when the line is idle and the baseband's line shows ready, the head of the slot lane, or else of the message
lane, begins to be sent. -/
def Rsl.startSending (r : Rsl) : Rsl :=
  if r.basebandReady && r.sending.isNone then
    match r.slotLane, r.lane with
    | h :: _, _ => { r with sending := some .slot, serialOut := h.bytes }
    | [], h :: _ => { r with sending := some .message, serialOut := h.bytes }
    | [], [] => r
  else r

/-- A record takes a place of the message lane. An idle line begins to send it at once. (DEDUCED, unsafe: log entry 8.) -/
def placeOnLane (r : OutRecord) (s : State) : State :=
  s.withRsl ({ s.rsl with lane := s.rsl.lane ++ [r] }).startSending

/-- A SLOT_OUT record takes a place of the slot lane (R149, R185). -/
def placeOnSlotLane (r : SlotOut) (s : State) : State :=
  s.withRsl ({ s.rsl with slotLane := s.rsl.slotLane ++ [r] }).startSending

/-- R184, first source: the HOE's records go to the lane, or to the tail of the HOE result backlog (R50). -/
def hoePlace (r : OutRecord) (s : State) : State :=
  if 0 < laneRoom s ∧ s.hoe.backlog = [] then placeOnLane r s
  else s.withHoe { s.hoe with backlog := s.hoe.backlog ++ [r] }

/-- R184, second source: the CKU's records go to the lane, or to the tail of the CKU result backlog (R112). An earlier source
that still waits takes the place first. (DEDUCED, unsafe: log entry 7.) -/
def ckuPlace (r : OutRecord) (s : State) : State :=
  if 0 < laneRoom s ∧ s.hoe.backlog = [] ∧ s.cku.backlog = [] then placeOnLane r s
  else s.withCku { s.cku with backlog := s.cku.backlog ++ [r] }

/-- R184, third source: the AST's records go to the lane, or to the tail of the AST result backlog. An earlier source
that still waits takes the place first. (DEDUCED, unsafe: log entry 7.) -/
def astPlace (r : OutRecord) (s : State) : State :=
  if 0 < laneRoom s ∧ s.hoe.backlog = [] ∧ s.cku.backlog = [] ∧ s.rsl.astBacklog = [] then placeOnLane r s
  else s.withRsl { s.rsl with astBacklog := s.rsl.astBacklog ++ [r] }

/-! ## The arbiter's turns (R184) -/

/-- The HOE result backlog's turn. -/
def hoeTurn (s : State) : Bool := 0 < laneRoom s

/-- The CKU result backlog's turn: the source before it has nothing waiting. -/
def ckuTurn (s : State) : Bool := hoeTurn s && s.hoe.backlog.isEmpty

/-- The AST result backlog's turn. -/
def astTurn (s : State) : Bool := ckuTurn s && s.cku.backlog.isEmpty

/-- The end reports' turn. -/
def endReportTurn (s : State) : Bool := astTurn s && s.rsl.astBacklog.isEmpty

/-- The notices' turn. -/
def noticeTurn (s : State) : Bool := endReportTurn s && s.rpc.endReports.isEmpty

/-- The wait queue's turn. -/
def waitTurn (s : State) : Bool := noticeTurn s && s.ntu.nextGroup.isNone

/-- R47: the in-flight list holds at most 8 entries. -/
def inflightLimit : Nat := 8

/-- R52: the HOE can take the head of its wait queue. -/
def waitReady (s : State) : Bool :=
  !s.hoe.waitQueue.isEmpty && decide (s.hoe.inflight.length < inflightLimit) && s.hoe.backlog.isEmpty

/-- R181 and R184: the inbound queue's turn. Its head needs two free places, and the node is not LOADING. -/
def inboundTurn (s : State) : Bool :=
  waitTurn s && !waitReady s && decide (2 ≤ laneRoom s) && (s.cfl.node != .loading)

/-! ## Client records -/

/-- The record of a client (R22: at most one). -/
def findRecord (client : Nat) (s : State) : Option Record :=
  s.ast.records.find? fun r => r.client == client

/-- The state with a client's record changed. -/
def updateRecord (client : Nat) (f : Record → Record) (s : State) : State :=
  s.withAst { s.ast with records := s.ast.records.map fun r => if r.client = client then f r else r }

/-- The idle timer's duration, 120.000 s (R35). -/
def idleMs : Nat := 120000

/-- The claimant timer's, the expectation hold's and the steer hold's durations (R23). -/
def RecordTimer.ms : RecordTimer → Nat
  | .claimant => 60000 | .expectation => 10000 | .steer => 10000

/-- The record with its claimant timer, if it carries one, stopped. -/
def Record.stopClaimant (r : Record) : Record :=
  { r with timer := if r.timer = some .claimant then none else r.timer }

/-- The timer a record carries on entering PULLING or ACTIVE: a CLAIMANT's claimant timer (R25, R28, R29, R31). -/
def claimantTimerFor (c : ClientClass) : Option RecordTimer :=
  if c = .claimant then some .claimant else none

/-- A list with each entry that repeats an earlier one left out (R32, R44). -/
def distinct (l : List Nat) : List Nat := l.foldl (fun acc a => if a ∈ acc then acc else acc ++ [a]) []

/-- R32: a heard list as the AST stores and uses it. -/
def normaliseHeard (own : Nat) (l : List Nat) : List Nat :=
  distinct (l.filter fun a => a ≠ 0 ∧ a ≤ 31 ∧ a ≠ own)

/-- R45: one steer failure more. -/
def countSteerFailure (s : State) : State :=
  s.withAst { s.ast with steerFailures := count16 s.ast.steerFailures }

/-! ## In-flight and claim entries -/

/-- The in-flight entry of a client (R47: at most one). -/
def findInflight (client : Nat) (s : State) : Option Inflight :=
  s.hoe.inflight.find? fun e => e.client == client

/-- R49: a client's in-flight entry is removed with its timer; a frame still queued is withdrawn. -/
def dropInflight (client : Nat) (s : State) : State :=
  match findInflight client s with
  | none => s
  | some e =>
    let s := s.withHoe { s.hoe with inflight := s.hoe.inflight.filter fun e => e.client ≠ client }
    if e.frame = .queued then withdrawFrame e.tag s else s

/-- The state with a client's in-flight entry changed. -/
def updateInflight (client : Nat) (f : Inflight → Inflight) (s : State) : State :=
  s.withHoe { s.hoe with inflight := s.hoe.inflight.map fun e => if e.client = client then f e else e }

/-- The pending claim of a client (R103: at most one). -/
def findClaim (client : Nat) (s : State) : Option Claim :=
  s.cku.claims.find? fun e => e.client == client

/-- R105: a client's pending claim is removed with its timer; a frame still queued is withdrawn. -/
def dropClaim (client : Nat) (s : State) : State :=
  match findClaim client s with
  | none => s
  | some e =>
    let s := s.withCku { s.cku with claims := s.cku.claims.filter fun e => e.client ≠ client }
    if e.frame = .queued then withdrawFrame e.tag s else s

/-- R48, R105: the entry that follows the frame with this tag learns how far the frame has come. -/
def markFrame (tag : Nat) (st : FrameStatus) (s : State) : State :=
  let s := s.withHoe { s.hoe with
    inflight := s.hoe.inflight.map fun e => if e.tag = tag then { e with frame := st } else e }
  s.withCku { s.cku with claims := s.cku.claims.map fun e => if e.tag = tag then { e with frame := st } else e }

/-! ## Free values -/

/-- A fresh free value (Config.lean): the counter the constant is applied to moves on. -/
def nextFree (s : State) : State := s.withFree (s.free + 1)

end Sys2Proof.Machine
end

