-- ==== Sys2Proof/Machine/Pressure.lean ====
section
/-! DEFINITION. Cell Pressure (01, R1 to R21): the Pressure Monitor's computation, monitor, restore hold, pool and adverts, and the
Neighbour Table's questions and timers. -/

namespace Sys2Proof.Machine

/-! ## The computation -/

/-- R2: the client share. -/
def clientShare (n c : Nat) : Nat := n * 1600 / c

/-- R2: the airtime share. -/
def airtimeShare (r s : Nat) : Nat := r * 1600 / s

/-- R3: the load, from the client weight Wc and Wa = 16 - Wc (R1). -/
def loadOf (wc uc ua : Nat) : Nat := (wc * uc + (16 - wc) * ua) / 16

/-- R3: saturation to the range of a raw pressure. -/
def saturate (d : Int) : Int := max (-2048) (min 2047 d)

/-- R2 and R3: the raw pressure of n clients and r replay slots under a configuration. -/
def pressureOf (c : NodeConfig) (n r : Nat) : Int :=
  saturate ((loadOf c.clientWeight (clientShare n c.capacity) (airtimeShare r c.slots) : Int) - 1600)

/-- R5: the hypothetical pressure with one client more. -/
def hypothetical (c : NodeConfig) (s : State) : Int := pressureOf c (s.clients + 1) s.assigned

/-- R7: the monitor's one evaluation of a new pressure. -/
def Monitor.evaluate (c : NodeConfig) (p : Int) : Monitor → Monitor
  | .normal => if c.critical ≤ p then .critical else if c.high ≤ p then .high else .normal
  | .high => if c.critical ≤ p then .critical else if p < c.low then .normal else .high
  | .critical => if p < c.low then .normal else if p < c.high then .high else .critical

/-- R7: the notice of a transition into a monitor state. -/
def Monitor.notice : Monitor → NoticeKind
  | .normal => .pressureNormal | .high => .pressureHigh | .critical => .pressureCritical

/-- R8: the restore hold after an evaluation that takes the monitor from `old` to `new`. -/
def restoreHoldAfter (old new : Monitor) (hold : Nat) : Nat :=
  if old = new then hold else if new = .critical then 0 else if old = .critical then 4 else hold

/-- R9: the pool is halved. -/
def Prm.halved (p : Prm) : Bool := p.monitor == .critical || decide (0 < p.restoreHold)

/-- R9: the replay pool. -/
def pool (s : State) : Nat := if s.prm.halved then s.rmax / 2 else s.rmax

/-! ## Adverts -/

/-- The advert timer's duration, 2.000 s (R11). -/
def advertMs : Nat := 2000

/-- The hold-off timer's duration, 250 ms (R10). -/
def holdOffMs : Nat := 250

/-- R10: the advert with the values current now. -/
def currentAdvert (c : NodeConfig) (s : State) : OutFrame :=
  .loadAdvert c.firstSeat c.seatCount s.prm.pressure s.prm.monitor s.clients s.prm.halved

/-- R10 and R14: the PRM queues an advert; only while the node is JOINED. An acceptance sets the last advertised values,
restarts the hold-off timer and clears the held trigger; a refusal restarts the timer and sets the trigger. -/
def queueAdvert (s : State) : State :=
  match s.cfl.config with
  | none => s
  | some c =>
    if s.cfl.node = .joined then
      let frame := currentAdvert c s
      let accepted := (queueAnswer 0 frame s).isSome
      let s := queueFrame 0 frame s
      s.withPrm { s.prm with
        lastAdvert := if accepted then some { pressure := s.prm.pressure, monitor := s.prm.monitor }
                      else s.prm.lastAdvert
        holdOff := some holdOffMs
        heldTrigger := !accepted }
    else s

/-- R12: the change trigger of a recompute; `moved` says that its evaluation made a transition. -/
def changeTrigger (moved : Bool) (p : Prm) : Bool :=
  match p.lastAdvert with
  | none => false
  | some a => decide (64 ≤ (p.pressure - a.pressure).natAbs) || moved || p.monitor != a.monitor

/-- R12: the trigger queues an advert at once, or sets the held trigger while the hold-off timer runs. -/
def triggerAdvert (s : State) : State :=
  if s.prm.holdOff.isNone then queueAdvert s
  else s.withPrm { s.prm with heldTrigger := true }

/-- R4: one recompute: the pressure (R2, R3), one monitor evaluation (R7) with the restore hold (R8) and its notice, and one
evaluation of the change trigger (R12). -/
def recompute (s : State) : State :=
  match s.cfl.config with
  | none => s
  | some c =>
    let p := pressureOf c s.clients s.assigned
    let m := s.prm.monitor.evaluate c p
    let moved := decide (s.prm.monitor ≠ m)
    let s := s.withPrm { s.prm with pressure := p, monitor := m,
                                    restoreHold := restoreHoldAfter s.prm.monitor m s.prm.restoreHold }
    let s := if moved then raise m.notice s else s
    if changeTrigger moved s.prm then triggerAdvert s else s

/-- R8: the SLS asks for the pool: the restore-hold step, before the pool is handed over. -/
def restoreHoldStep (s : State) : State :=
  if 0 < s.prm.restoreHold ∧ s.prm.monitor ≠ .critical then
    s.withPrm { s.prm with restoreHold := s.prm.restoreHold - 1 }
  else s

/-! ## The neighbour table -/

/-- The age timer's duration, 6.000 s (R16). -/
def ageMs : Nat := 6000

/-- The decline hold's duration, 2.000 s (R19). -/
def declineMs : Nat := 2000

/-- The neighbour entry of a station (R16: at most one). -/
def findNeighbour (station : Nat) (s : State) : Option Neighbour :=
  s.nbt.find? fun e => e.station == station

/-- R17: a LOAD_ADVERT refreshes the station's entry or makes one. -/
def takeAdvert (source : Nat) (a : AdvertPayload) (s : State) : State :=
  if (findNeighbour source s).isSome then
    s.withNbt (s.nbt.map fun e => if e.station = source then
      { e with firstSeat := a.firstSeat, seatCount := a.seatCount, pressure := a.pressure,
               lastHeard := s.sck.time, ageTimer := some ageMs } else e)
  else
    s.withNbt (s.nbt ++ [{ station := source, firstSeat := a.firstSeat, seatCount := a.seatCount,
                           pressure := a.pressure, lastHeard := s.sck.time, ageTimer := some ageMs,
                           declineHold := none }])

/-- R19: the HOE sets a decline hold on a station; with no entry the request is not recorded. -/
def setDeclineHold (station : Nat) (s : State) : State :=
  s.withNbt (s.nbt.map fun e => if e.station = station then { e with declineHold := some declineMs } else e)

/-- R20: an entry's block contains a seat. -/
def Neighbour.covers (q : Nat) (e : Neighbour) : Bool :=
  decide (e.firstSeat ≤ q) && decide (q < e.firstSeat + e.seatCount)

/-- R20: of two entries that contain the seat, the one with the later last-heard site time, then the lower address. -/
def betterOwner (a b : Neighbour) : Bool :=
  decide (b.lastHeard < a.lastHeard) || (a.lastHeard == b.lastHeard && decide (a.station ≤ b.station))

/-- R20: which neighbour owns seat q. -/
def ownerOf (q : Nat) (s : State) : Option Nat :=
  ((s.nbt.filter fun e => e.covers q).foldl (fun acc e =>
    match acc with
    | none => some e
    | some a => if betterOwner a e then some a else some e) none).map Neighbour.station

/-- R21: an entry stays in consideration for a list of addresses, with the asker's exclusions. -/
def Neighbour.considered (l : List Nat) (excludeHolds : Bool) (bound : Option Int) (e : Neighbour) : Bool :=
  decide (e.station ∈ l) && !(excludeHolds && e.declineHold.isSome) &&
    (match bound with | none => true | some b => decide (e.pressure ≤ b))

/-- R21: of two entries, the one with the lower advertised pressure, then the lower address. -/
def lighter (a b : Neighbour) : Bool :=
  decide (a.pressure < b.pressure) || (a.pressure == b.pressure && decide (a.station ≤ b.station))

/-- R21: the least-pressure station among a list of addresses. -/
def leastPressure (l : List Nat) (excludeHolds : Bool) (bound : Option Int) (s : State) : Option Nat :=
  ((s.nbt.filter fun e => e.considered l excludeHolds bound).foldl (fun acc e =>
    match acc with
    | none => some e
    | some a => if lighter a e then some a else some e) none).map Neighbour.station

/-! ## Commands -/

/-- HOLD_OFF_TIMER_EXPIRY (R13). -/
def execHoldOffTimerExpiry (s : State) : Host.Outcome State Fault Refusal :=
  if s.prm.holdOff.isNone then .next s
  else
    let s := s.withPrm { s.prm with holdOff := none }
    .next (if s.prm.heldTrigger then queueAdvert s else s)

/-- AGE_TIMER_EXPIRY (R18): the entry goes with its decline hold, and NEIGHBOUR_LOST becomes pending. -/
def execAgeTimerExpiry (station : Nat) (s : State) : Host.Outcome State Fault Refusal :=
  match findNeighbour station s with
  | none => .next s
  | some e =>
    if e.ageTimer.isNone then .next s
    else .next (raise .neighbourLost (s.withNbt (s.nbt.filter fun e => e.station ≠ station)))

/-- DECLINE_HOLD_EXPIRY (R19): the field becomes absent. -/
def execDeclineHoldExpiry (station : Nat) (s : State) : Host.Outcome State Fault Refusal :=
  .next (s.withNbt (s.nbt.map fun e => if e.station = station then { e with declineHold := none } else e))

end Sys2Proof.Machine
end

