-- ==== Sys2Proof/Machine/Streams.lean ====
section
/-! DEFINITION. Replay Streams and Segment Cache (06, R116 to R136): the stream table, subscriber counts, withdrawal, the assembly of
segments, eviction and the gap drop. -/

namespace Sys2Proof.Machine

/-! ## The stream table -/

/-- The stream entry of an id (R116: at most one). -/
def findStream (id : Nat) (s : State) : Option Stream := s.rpc.streams.find? fun st => st.id == id

/-- The state with a stream's entry changed. -/
def updateStream (id : Nat) (f : Stream → Stream) (s : State) : State :=
  s.withRpc { s.rpc with streams := s.rpc.streams.map fun st => if st.id = id then f st else st }

/-- R116: the cursor has a current segment. -/
def Stream.midSegment (st : Stream) : Bool := st.cursor.current.isSome

/-- The number of places a map assigns to a stream (R140). -/
def SlotMap.slotsOf (id : Nat) (m : SlotMap) : Nat :=
  m.places.countP fun p => match p with | some p => p.stream == id | none => false

/-- The number of places the map in force assigns to a stream; none without a map. -/
def slotsInForce (id : Nat) (s : State) : Nat := (s.sls.inForce.map (SlotMap.slotsOf id)).getD 0

/-- R116: the stream table has 8 places. -/
def streamPlaces : Nat := 8

/-- R119: the empty cursor. -/
def emptyCursor : Cursor := { current := none, nextIndex := 0, lastEmitted := none, lastSent := none }

/-- R119: a new stream entry. -/
def newStream (a : Announce) (born : Nat) : Stream :=
  { id := a.id, priority := a.priority, demand := a.demand, chunks := a.chunks, chunkLength := a.chunkLength,
    padding := a.padding, alignment := a.alignment, subscribers := 0, state := .idle, wantedSince := none,
    withdrawn := false, cursor := emptyCursor, underruns := 0, born := born }

/-- R118: an announce updates the announced fields; the rest stays. -/
def Stream.updated (a : Announce) (st : Stream) : Stream :=
  { st with priority := a.priority, demand := a.demand, chunks := a.chunks, chunkLength := a.chunkLength,
            padding := a.padding, alignment := a.alignment }

/-- R124: a stream after one subscriber more. -/
def Stream.gained (now slots : Nat) (st : Stream) : Stream :=
  let st := { st with subscribers := st.subscribers + 1 }
  match st.state with
  | .idle => { st with state := .wanted, wantedSince := some now }
  | .wanted | .live | .starved => st
  | .draining => if st.withdrawn then st else { st with state := if 0 < slots then .live else .starved }

/-- R125: a stream after one subscriber less. -/
def Stream.lost (st : Stream) : Stream :=
  let st := { st with subscribers := st.subscribers - 1 }
  if 0 < st.subscribers then st
  else match st.state with
    | .wanted | .live | .starved =>
      if st.midSegment then { st with state := .draining } else { st with state := .idle, wantedSince := none }
    | .idle | .draining => st

/-- R124: the AST reports a gained subscriber. -/
def gainSubscriber (id : Nat) (s : State) : State :=
  updateStream id (Stream.gained s.sck.time (slotsInForce id s)) s

/-- R125: the AST reports a lost subscriber. -/
def loseSubscriber (id : Nat) (s : State) : State := updateStream id Stream.lost s

/-- R122, first part: the stream leaves every subscription list (R44), its segment records are freed, and its place holds
an end report. -/
def removeStream (id : Nat) (s : State) : State :=
  let s := s.withAst { s.ast with records := s.ast.records.map fun r => { r with subs := r.subs.filter fun x => x ≠ id } }
  s.withRpc { s.rpc with
    streams := s.rpc.streams.filter fun st => st.id ≠ id
    cache := s.rpc.cache.filter fun r => r.stream ≠ id
    endReports := s.rpc.endReports ++ [id] }

/-- R126: a DRAINING stream finishes: a withdrawn one is removed, another becomes IDLE. -/
def finishDraining (id : Nat) (s : State) : State :=
  match findStream id s with
  | none => s
  | some st =>
    if st.withdrawn then removeStream id s
    else updateStream id (fun st => { st with state := .idle, wantedSince := none }) s

/-- R121: an announce with demand 0 withdraws a stream. -/
def withdrawStream (id : Nat) (s : State) : State :=
  match findStream id s with
  | none => s
  | some st =>
    let s := updateStream id (fun st => { st with withdrawn := true }) s
    if st.midSegment then updateStream id (fun st => { st with state := .draining }) s
    else removeStream id s

/-- R120: an entry that may be replaced. -/
def replaceable (s : State) (st : Stream) : Bool :=
  st.state == .idle && !st.withdrawn && st.subscribers == 0 && !(s.rpc.cache.any fun r => r.stream == st.id)

/-- R119: a new entry at the newest announce rank. -/
def addStream (a : Announce) (s : State) : State :=
  s.withRpc { s.rpc with streams := s.rpc.streams ++ [newStream a s.rpc.nextBorn], nextBorn := s.rpc.nextBorn + 1 }

/-- R117: the announce is decided by the first row that fits. -/
def takeAnnounce (a : Announce) (s : State) : State :=
  if !s.hearing then s
  else if a.id ∈ s.rpc.endReports then s
  else match findStream a.id s with
    | some st =>
      if st.withdrawn then s
      else if a.demand = 0 then withdrawStream a.id s
      else s.withRpc { s.rpc with
        streams := (s.rpc.streams.filter fun x => x.id ≠ a.id) ++ [st.updated a] }
    | none =>
      if a.demand = 0 then s
      else if s.rpc.streams.length + s.rpc.endReports.length < streamPlaces then addStream a s
      else match s.rpc.streams.find? (replaceable s) with
        | some old =>
          addStream a (s.withRpc { s.rpc with streams := s.rpc.streams.filter fun x => x.id ≠ old.id })
        | none => raise .streamTableFull s

/-! ## Segment records -/

/-- R127: sequences are compared modulo 65536. -/
def seqDistance (a b : Nat) : Nat := (a + (65536 - b % 65536)) % 65536

/-- A sequence is ahead of another when the distance lies in 1..32767 (00, "Sequence numbers"; R127). -/
def seqAhead (a b : Nat) : Bool := decide (1 ≤ seqDistance a b) && decide (seqDistance a b ≤ 32767)

/-- The segment cache holds at most 64 records (R127). -/
def cacheLimit : Nat := 64

/-- The record of a stream and sequence (R127: at most one). -/
def findSegment (stream seq : Nat) (s : State) : Option SegmentRecord :=
  s.rpc.cache.find? fun r => r.stream == stream && r.sequence == seq

/-- The state with a segment record changed. -/
def updateSegment (stream seq : Nat) (f : SegmentRecord → SegmentRecord) (s : State) : State :=
  s.withRpc { s.rpc with
    cache := s.rpc.cache.map fun r => if r.stream = stream ∧ r.sequence = seq then f r else r }

/-- A segment record is freed. -/
def freeSegment (stream seq : Nat) (s : State) : State :=
  s.withRpc { s.rpc with cache := s.rpc.cache.filter fun r => !(r.stream == stream && r.sequence == seq) }

/-- The payload of a received chunk (R127). -/
def chunkAt (index : Nat) (chunks : List (Nat × List Byte)) : Option (List Byte) :=
  (chunks.find? fun c => c.1 == index).map Prod.snd

/-- A chunk stored under its index; indices rise. A chunk that is held already stays as it is (R130). -/
def storeChunk (index : Nat) (payload : List Byte) : List (Nat × List Byte) → List (Nat × List Byte)
  | [] => [(index, payload)]
  | c :: cs =>
    if index < c.1 then (index, payload) :: c :: cs
    else if index = c.1 then c :: cs
    else c :: storeChunk index payload cs

/-- The indices of a chunk store rise strictly. -/
def chunksRise : List (Nat × List Byte) → Bool
  | [] => true
  | [_] => true
  | a :: b :: cs => decide (a.1 < b.1) && chunksRise (b :: cs)

/-- R131: the state of a record whose last missing chunk has been stored. -/
def completedState (lastSent : Option Nat) (seq : Nat) : SegmentState :=
  match lastSent with
  | some t => if seqAhead seq t then .complete else .spent
  | none => .complete

/-- R130 and R131: a record takes a chunk whose form fits. -/
def SegmentRecord.take (lastSent : Option Nat) (c : Chunk) (r : SegmentRecord) : SegmentRecord :=
  if r.state ≠ .filling ∨ (chunkAt c.index r.chunks).isSome then r
  else
    let chunks := storeChunk c.index c.payload r.chunks
    { r with chunks := chunks
             state := if chunks.length = r.count then completedState lastSent r.sequence else .filling }

/-- R129: a frame's form fits a chunk count and a chunk length. -/
def Chunk.fits (count length : Nat) (c : Chunk) : Bool :=
  c.count == count && decide (c.index < count) && c.payload.length == length

/-- R129, R135: a malformed chunk. -/
def countMalformed (s : State) : State := s.withRpc { s.rpc with malformed := count16 s.rpc.malformed }

/-- The priority number of a record's stream, as the stream entry stands (R133). -/
def priorityOf (s : State) (r : SegmentRecord) : Option Nat := (findStream r.stream s).map Stream.priority

/-- R133, steps 2 and 3: among the records in one state of streams whose priority number is at least `prio`, the oldest of
those with the greatest priority number. -/
def victimIn (st : SegmentState) (prio : Nat) (s : State) : Option SegmentRecord :=
  let eligible := s.rpc.cache.filter fun r =>
    r.state == st && (match priorityOf s r with | some p => decide (prio ≤ p) | none => false)
  let greatest := eligible.foldl (fun m r => max m ((priorityOf s r).getD 0)) 0
  eligible.find? fun r => priorityOf s r == some greatest

/-- R133: the victim, from the first of the three steps that finds a candidate. -/
def victim (prio : Nat) (s : State) : Option SegmentRecord :=
  match s.rpc.cache.find? (fun r => r.state == .spent) with
  | some r => some r
  | none =>
    match victimIn .filling prio s with
    | some r => some r
    | none => victimIn .complete prio s

/-- R132: the new record of a chunk, from the stream entry. -/
def newSegment (st : Stream) (c : Chunk) : SegmentRecord :=
  SegmentRecord.take st.cursor.lastSent c
    { stream := c.stream, sequence := c.sequence, stamp := c.stamp, count := st.chunks, length := st.chunkLength,
      chunks := [], state := .filling }

/-- The new record is placed last in the cache (R132). -/
def appendSegment (st : Stream) (c : Chunk) (s : State) : State :=
  s.withRpc { s.rpc with cache := s.rpc.cache ++ [newSegment st c] }

/-- R132: a chunk with no record creates one, after a victim is freed if the cache is full. -/
def createSegment (st : Stream) (c : Chunk) (s : State) : State :=
  if s.rpc.cache.length < cacheLimit then appendSegment st c s
  else match victim st.priority s with
    | some v => appendSegment st c (freeSegment v.stream v.sequence s)
    | none => raise .cacheFull s

/-- R129, last row: a frame with no record. -/
def takeChunkWithoutRecord (st : Stream) (c : Chunk) (s : State) : State :=
  if c.fits st.chunks st.chunkLength then createSegment st c s else countMalformed s

/-- R129: a stream captures segments in WANTED, LIVE, STARVED, and DRAINING and not withdrawn. -/
def Stream.captures (st : Stream) : Bool := st.state != .idle && !st.withdrawn

/-- R129: a SEGMENT frame is taken. (DEDUCED, unsafe: log entry 17.) -/
def takeSegment (c : Chunk) (s : State) : State :=
  if !s.hearing then s
  else match findStream c.stream s with
    | none => s
    | some st =>
      if !st.captures then s
      else match findSegment c.stream c.sequence s with
        | none => takeChunkWithoutRecord st c s
        | some r =>
          if r.stamp = c.stamp then
            if c.fits r.count r.length then updateSegment c.stream c.sequence (SegmentRecord.take st.cursor.lastSent c) s
            else countMalformed s
          else if r.state = .spent then takeChunkWithoutRecord st c (freeSegment c.stream c.sequence s)
          else countMalformed s

/-- R134: a FILLING record is behind a COMPLETE record of its stream. -/
def gapped (cache : List SegmentRecord) (r : SegmentRecord) : Bool :=
  r.state == .filling &&
    cache.any fun x => x.stream == r.stream && x.state == .complete && seqAhead x.sequence r.sequence

/-- One SEGMENT_GAP for each record removed (R134). -/
def raiseGaps : Nat → State → State
  | 0, s => s
  | n + 1, s => raiseGaps n (raise .segmentGap s)

/-- R134: the gap drop. -/
def gapDrop (s : State) : State :=
  let n := s.rpc.cache.countP (gapped s.rpc.cache)
  raiseGaps n (s.withRpc { s.rpc with
    cache := s.rpc.cache.filter fun r => !gapped s.rpc.cache r
    gaps := satAdd 65535 s.rpc.gaps n })

/-! ## Commands -/

/-- STREAM_ENDED (R122, second part): an end report is placed on the message lane and its place becomes empty. -/
def execStreamEnded (s : State) : Host.Outcome State Fault Refusal :=
  match s.rpc.endReports with
  | [] => .next s
  | id :: rest =>
    if endReportTurn s then .next (placeOnLane (.streamEnded id) (s.withRpc { s.rpc with endReports := rest }))
    else .next s

end Sys2Proof.Machine
end

