-- ==== Sys2Proof/Machine/Requests.lean ====
section
/-! DEFINITION. The inbound queue (10, R180 to R182): arrival of a link record, and the taking of the queue's head, whole, with
the REJECT answers of R181. -/

namespace Sys2Proof.Machine

/-- R180: the inbound queue holds 32 records. -/
def inboundLimit : Nat := 32

/-- R180: the node's ready line toward the baseband, true for ready. -/
def nodeReady (s : State) : Bool := decide (s.rsl.inbound.length < inboundLimit)

/-- R180: the sum of every byte of a record: kind, two length bytes, body and check. -/
def recordSum (kind : Byte) (body : List Byte) (check : Byte) : Byte :=
  byteSum ([kind] ++ beBytes 2 body.length ++ body ++ [check])

/-- The body of the inbound queue's head, when it is a record of that kind and its turn has come (R181, R184). -/
def headRequest (kind : Nat) (s : State) : Option (List Byte) :=
  match s.rsl.inbound with
  | r :: _ => if r.kind.toNat = kind ∧ inboundTurn s = true then some r.body else none
  | [] => none

/-- R181: the head is removed from the queue. -/
def popRequest (s : State) : State := s.withRsl { s.rsl with inbound := s.rsl.inbound.tail }

/-- R181: a REJECT is placed on the message lane. -/
def reject (kind : Nat) (reason : RejectReason) (s : State) : State :=
  placeOnLane (.reject (BitVec.ofNat 8 kind) reason) s

/-- R181: the head of the inbound queue, of kind `kind`, is taken whole; a body that does not fit is answered REJECT
BAD_LENGTH. Out of turn, or with another record at the head, nothing is taken. (DESIGN CHOICE, safe: log entry 1.
DEDUCED, unsafe: log entry 7.) -/
def takeRequest {α : Type} (kind : Nat) (read : List Byte → Option α) (act : α → State → State) (s : State) :
    Host.Outcome State Fault Refusal :=
  match headRequest kind s with
  | none => .next s
  | some body =>
    match read body with
    | none => .next (reject kind .badLength (popRequest s))
    | some a => .next (act a (popRequest s))

/-- A NOTICE_CONTROL with one of the operations `op` accepts is taken. -/
def takeNotice (op : Nat → Bool) (act : BitVec 32 → Ntu → Ntu) (s : State) : Host.Outcome State Fault Refusal :=
  match headRequest 71 s with
  | none => .next s
  | some body =>
    if op (noticeOperation body) then
      match readNotice body with
      | none => .next (reject 71 .badLength (popRequest s))
      | some mask => .next ((popRequest s).withNtu (act mask s.ntu))
    else .next s

/-! ## Commands -/

/-- LINK_RECORD_ARRIVAL (R180). -/
def execLinkRecordArrival (kind : Byte) (body : List Byte) (check : Byte) (s : State) :
    Host.Outcome State Fault Refusal :=
  if recordSum kind body check = 0 ∧ s.rsl.inbound.length < inboundLimit then
    .next (s.withRsl { s.rsl with inbound := s.rsl.inbound ++ [{ kind := kind, body := body }] })
  else .next (s.withRsl { s.rsl with linkErrors := count16 s.rsl.linkErrors })

/-- UNKNOWN_KIND_RECORD (R181): the head is of a kind the node does not take. -/
def execUnknownKindRecord (s : State) : Host.Outcome State Fault Refusal :=
  match s.rsl.inbound with
  | [] => .next s
  | r :: _ =>
    if !knownRecordKind r.kind && inboundTurn s then .next (reject r.kind.toNat .unknownKind (popRequest s))
    else .next s

/-- ENABLE (R187). -/
def execEnable (s : State) : Host.Outcome State Fault Refusal := takeNotice (· == 0) Ntu.enable s

/-- DISABLE (R187). -/
def execDisable (s : State) : Host.Outcome State Fault Refusal := takeNotice (· == 1) Ntu.disable s

/-- ACK (R189). -/
def execAck (s : State) : Host.Outcome State Fault Refusal := takeNotice (· == 2) Ntu.ack s

/-- GLOBAL_ON (R188). -/
def execGlobalOn (s : State) : Host.Outcome State Fault Refusal :=
  takeNotice (· == 3) (fun _ n => { n with globalEnable := true }) s

/-- GLOBAL_OFF (R188). -/
def execGlobalOff (s : State) : Host.Outcome State Fault Refusal :=
  takeNotice (· == 4) (fun _ n => { n with globalEnable := false }) s

/-- CLEAR_ALL (R189). -/
def execClearAll (s : State) : Host.Outcome State Fault Refusal := takeNotice (· == 5) (fun _ n => n.clearAll) s

/-- NOTICE_CONTROL_BAD_OPERATION (R202): taken with no effect. -/
def execNoticeControlBadOperation (s : State) : Host.Outcome State Fault Refusal :=
  takeNotice (fun op => decide (5 < op)) (fun _ n => n) s

/-- HOE_BACKLOG_MOVE (R50): the head of the backlog moves to the lane. -/
def execHoeBacklogMove (s : State) : Host.Outcome State Fault Refusal :=
  match s.hoe.backlog with
  | [] => .next s
  | r :: rest =>
    if hoeTurn s then .next (placeOnLane r (s.withHoe { s.hoe with backlog := rest })) else .next s

/-- CKU_BACKLOG_MOVE (R112). -/
def execCkuBacklogMove (s : State) : Host.Outcome State Fault Refusal :=
  match s.cku.backlog with
  | [] => .next s
  | r :: rest =>
    if ckuTurn s then .next (placeOnLane r (s.withCku { s.cku with backlog := rest })) else .next s

/-- AST_BACKLOG_MOVE (R184). -/
def execAstBacklogMove (s : State) : Host.Outcome State Fault Refusal :=
  match s.rsl.astBacklog with
  | [] => .next s
  | r :: rest =>
    if astTurn s then .next (placeOnLane r (s.withRsl { s.rsl with astBacklog := rest })) else .next s

/-- NOTICE_DELIVERY (R188): one NOTICE for the first set group flag, which is cleared. -/
def execNoticeDelivery (s : State) : Host.Outcome State Fault Refusal :=
  match s.ntu.nextGroup with
  | none => .next s
  | some g =>
    if noticeTurn s then
      .next (placeOnLane (.notice g (s.ntu.entries g))
        (s.withNtu { s.ntu with groups := s.ntu.groups.put g false }))
    else .next s

/-- RECORD_TAKEN (R183): the record in sending leaves its lane, and the next one begins. -/
def execRecordTaken (s : State) : Host.Outcome State Fault Refusal :=
  match s.rsl.sending with
  | none => .next s
  | some .slot =>
    .next (s.withRsl { s.rsl with slotLane := s.rsl.slotLane.tail, sending := none, serialOut := [] }.startSending)
  | some .message =>
    .next (s.withRsl { s.rsl with lane := s.rsl.lane.tail, sending := none, serialOut := [] }.startSending)

/-- BASEBAND_READY (R183): the baseband's line changes; a record in sending is completed whatever the line shows. -/
def execBasebandReady (ready : Bool) (s : State) : Host.Outcome State Fault Refusal :=
  .next (s.withRsl { s.rsl with basebandReady := ready }.startSending)

end Sys2Proof.Machine
end

