-- ==== Sys2Proof/Machine/Association.lean ====
section
/-! DEFINITION. Association Table (02, R22 to R46): removal of records, class changes, reachability, departure, the timers of the
records, and subscription lists. Admission stands in Admission.lean. -/

namespace Sys2Proof.Machine

/-! ## The seat block as the AST reads it (R93) -/

/-- The index of a seat of the node's block (R76). -/
def seatIndex (q : Nat) (s : State) : Option Nat :=
  match s.cfl.config with
  | none => none
  | some c => if c.firstSeat ≤ q ∧ q < c.firstSeat + c.seatCount then some (q - c.firstSeat) else none

/-- The entry of a seat of the block; none for a seat outside it (R93). -/
def seatEntry (q : Nat) (s : State) : Option SeatEntry := (seatIndex q s).bind fun i => s.ens.seats[i]?

/-- R93: the seat's entry is CHECKED_IN by the client. -/
def checkedInBy (client q : Nat) (s : State) : Bool :=
  match (seatEntry q s).map SeatEntry.standing with
  | some (.checkedIn _ c _) => c == client
  | _ => false

/-- R93: the declared seat's entry is ISSUED or CHECKED_IN. -/
def seatTicketed (q : Nat) (s : State) : Bool :=
  match (seatEntry q s).map SeatEntry.standing with
  | some (.issued _) | some (.checkedIn ..) => true
  | _ => false

/-! ## Removal -/

/-- R37, step 2: one lost subscriber for each stream of a list. -/
def loseAll (l : List Nat) (s : State) : State := l.foldl (fun s id => loseSubscriber id s) s

/-- R37: a client's record is removed: its subscriptions, its in-flight entry, its pending claim (R108), and one
recompute. -/
def removeRecord (client : Nat) (s : State) : State :=
  match findRecord client s with
  | none => s
  | some r =>
    let s := s.withAst { s.ast with records := s.ast.records.filter fun x => x.client ≠ client }
    let s := loseAll r.subs s
    let s := if r.state = .pulling ∨ r.state = .offering then dropInflight client s else s
    recompute (dropClaim client s)

/-- A new record is placed last in the list and reported to the PRM (R22, R31). -/
def addRecord (r : Record) (s : State) : State :=
  recompute (s.withAst { s.ast with records := s.ast.records ++ [r] })

/-! ## Classes -/

/-- The timer of a record that has become CLAIMANT: started in ACTIVE and PULLING, else as it is (R26, R40). -/
def claimantStart (r : Record) : Option RecordTimer :=
  if r.state = .active ∨ r.state = .pulling then some .claimant else r.timer

/-- R26: the class of a client's record is derived from its binding and the seat entry; a change is reported to the PRM.
(DEDUCED, unsafe: log entry 22.) -/
def deriveClass (client : Nat) (s : State) : State :=
  match findRecord client s with
  | none => s
  | some r =>
    let ground := match r.binding with | some b => checkedInBy client b.seat s | none => false
    if ground then
      if r.cls = .home then s
      else recompute (updateRecord client (fun r => { r.stopClaimant with cls := .home }) s)
    else if r.cls = .home then
      recompute (updateRecord client (fun r => { r with cls := .claimant, timer := claimantStart r }) s)
    else s

/-- R39: a local check-in ADMITTED sets the binding and makes the record HOME; a change of class is reported. -/
def localAdmitted (client : Nat) (b : Binding) (s : State) : State :=
  match findRecord client s with
  | none => s
  | some r =>
    let s := updateRecord client (fun r => { r.stopClaimant with binding := some b, cls := .home }) s
    if r.cls = .home then s else recompute s

/-- R40: the ENS asks to demote the client that held seat q. -/
def demote (client q : Nat) (s : State) : State :=
  match findRecord client s with
  | none => s
  | some r =>
    if r.cls = .home ∧ r.binding.map Binding.seat = some q then
      recompute (updateRecord client
        (fun r => { r with binding := none, cls := .claimant, timer := claimantStart r }) s)
    else s

/-- R41: a CLAIMANT that has got any other result than a local ADMITTED becomes GUEST, or is removed with CELL_FULL. -/
def claimantFallback (client : Nat) (s : State) : State :=
  match findRecord client s with
  | none => s
  | some r =>
    if r.cls = .claimant then
      if s.guests < s.capacity then
        recompute (updateRecord client (fun r => { r.stopClaimant with cls := .guest }) s)
      else ckuPlace (.dropClient client .cellFull) (removeRecord client s)
    else s

/-! ## Subscription lists -/

/-- R42: the result of a SUBSCRIBE, by the first check that fails. -/
def subscribeCode (client stream : Nat) (s : State) : SubscribeCode :=
  match findRecord client s with
  | none => .notAssociated
  | some r =>
    if r.state ≠ .active then .notAssociated
    else match findStream stream s with
      | none => .unknownStream
      | some st =>
        if st.withdrawn then .streamEnding
        else if stream ∈ r.subs then .already
        else if 4 ≤ r.subs.length then .listFull
        else .subscribed

/-- R35: the states in which the idle timer runs. -/
def RecordState.served (st : RecordState) : Bool := st == .active || st == .offering || st == .steered

/-- R35: a request naming the client restarts the idle timer of a served record. -/
def restartIdle (client : Nat) (s : State) : State :=
  updateRecord client (fun r => if r.state.served then { r with idle := some idleMs } else r) s

/-- R42: a SUBSCRIBE is taken. -/
def subscribe (client stream : Nat) (s : State) : State :=
  let code := subscribeCode client stream s
  let s := restartIdle client s
  let s := if code = .subscribed then
      gainSubscriber stream (updateRecord client (fun r => { r with subs := r.subs ++ [stream] }) s)
    else s
  placeOnLane (.subscribeResult client stream code) s

/-- R43: the result of an UNSUBSCRIBE. -/
def unsubscribeCode (client stream : Nat) (s : State) : SubscribeCode :=
  match findRecord client s with
  | none => .notAssociated
  | some r =>
    if !r.state.served then .notAssociated
    else if stream ∈ r.subs then .unsubscribed else .notSubscribed

/-- R43: an UNSUBSCRIBE is taken. -/
def unsubscribe (client stream : Nat) (s : State) : State :=
  let code := unsubscribeCode client stream s
  let s := restartIdle client s
  let s := if code = .unsubscribed then
      loseSubscriber stream (updateRecord client (fun r => { r with subs := r.subs.filter fun x => x ≠ stream }) s)
    else s
  placeOnLane (.subscribeResult client stream code) s

/-- R44: the streams of a context's list, each once, that are in the stream table. -/
def keptStreams (l : List Nat) (s : State) : List Nat :=
  ((distinct l).filter fun id => (findStream id s).isSome).take 4

/-- R44 and R33: the streams of a context's list that are left out. (DEDUCED, unsafe: log entry 12.) -/
def droppedStreams (l : List Nat) (s : State) : List Nat :=
  (distinct l).filter fun id => id ∉ keptStreams l s

/-- R44: a pulled context's list is installed, with one gained subscriber for each stream kept. -/
def installStreams (client : Nat) (l : List Nat) (s : State) : State :=
  let kept := keptStreams l s
  kept.foldl (fun s id => gainSubscriber id s) (updateRecord client (fun r => { r with subs := kept }) s)

/-! ## Reachability and departure -/

/-- R34: a HEARD is taken. -/
def takeHeard (client : Nat) (heard : List Nat) (s : State) : State :=
  let l := normaliseHeard s.station heard
  updateRecord client (fun r =>
    if r.state.served then { r with heard := l, idle := some idleMs }
    else if r.state = .pulling then { r with heard := l } else r) s

/-- R53: a DEPART withdraws the client's request from the wait queue. -/
def withdrawWaiting (client : Nat) (s : State) : State :=
  s.withHoe { s.hoe with waitQueue := s.hoe.waitQueue.filter fun q => q.client ≠ client }

/-- R38: a DEPART is taken. -/
def takeDepart (client : Nat) (s : State) : State :=
  match findRecord client s with
  | none => withdrawWaiting client s
  | some r => if r.state = .releasing ∨ r.state = .expected then s else removeRecord client s

/-! ## Commands -/

/-- HEARD (R34). -/
def execHeard (s : State) : Host.Outcome State Fault Refusal :=
  takeRequest 65 readHeard (fun a => takeHeard a.1 a.2) s

/-- DEPART (R38). -/
def execDepart (s : State) : Host.Outcome State Fault Refusal := takeRequest 66 readDepart takeDepart s

/-- SUBSCRIBE (R42). -/
def execSubscribe (s : State) : Host.Outcome State Fault Refusal :=
  takeRequest 68 readSubscribe (fun a => subscribe a.1 a.2) s

/-- UNSUBSCRIBE (R43). -/
def execUnsubscribe (s : State) : Host.Outcome State Fault Refusal :=
  takeRequest 69 readSubscribe (fun a => unsubscribe a.1 a.2) s

/-- IDLE_TIMER_EXPIRY (R35). -/
def execIdleTimerExpiry (client : Nat) (s : State) : Host.Outcome State Fault Refusal :=
  match findRecord client s with
  | none => .next s
  | some r =>
    if r.idle.isNone then .next s
    else .next (astPlace (.dropClient client .idle) (removeRecord client s))

/-- CLAIMANT_TIMER_EXPIRY (R36). -/
def execClaimantTimerExpiry (client : Nat) (s : State) : Host.Outcome State Fault Refusal :=
  match findRecord client s with
  | none => .next s
  | some r =>
    if r.timer = some .claimant then
      .next (astPlace (.dropClient client .unverifiedSeat) (removeRecord client s))
    else .next s

/-- EXPECTATION_HOLD_EXPIRY (R73): the record is removed and no record is placed. -/
def execExpectationHoldExpiry (client : Nat) (s : State) : Host.Outcome State Fault Refusal :=
  match findRecord client s with
  | none => .next s
  | some r => if r.timer = some .expectation then .next (removeRecord client s) else .next s

/-- STEER_HOLD_EXPIRY (R70): the record returns to ACTIVE and a steer failure is counted (R45). -/
def execSteerHoldExpiry (client : Nat) (s : State) : Host.Outcome State Fault Refusal :=
  match findRecord client s with
  | none => .next s
  | some r =>
    if r.timer = some .steer then
      .next (countSteerFailure
        (updateRecord client (fun r => { r with state := .active, peer := none, timer := none }) s))
    else .next s

end Sys2Proof.Machine
end

