-- ==== Sys2Proof/Machine/Handoff.lean ====
section
/-! DEFINITION. Handoff Engine (03, R47 to R75): pulls at the requester and at the holder, steering at the initiator and at the
target. The wait queue stands in Admission.lean, the RBC's reports in Reports.lean. -/

namespace Sys2Proof.Machine

/-- R48: the response timer's duration. -/
def responseMs : Nat := 400

/-- The class of a client's record, as an ASSOC_RESULT carries it (R33). -/
def classOf (client : Nat) (s : State) : Option ClientClass := (findRecord client s).map Record.cls

/-- The since-time of a client's record. -/
def sinceOf (client : Nat) (s : State) : Nat := ((findRecord client s).map Record.since).getD 0

/-- A new in-flight entry (R47). -/
def addInflight (e : Inflight) (s : State) : State := s.withHoe { s.hoe with inflight := s.hoe.inflight ++ [e] }

/-- R48: the entry of a first attempt whose frame has been queued. -/
def queuedEntry (client : Nat) (kind : InflightKind) (peer tag : Nat) : Inflight :=
  { client := client, kind := kind, peer := peer, attempt := 1, frame := .queued, tag := tag, timer := some responseMs }

/-- R48: the entry of a first attempt whose frame has been refused. -/
def refusedEntry (client : Nat) (kind : InflightKind) (peer : Nat) : Inflight :=
  { client := client, kind := kind, peer := peer, attempt := 1, frame := .ended, tag := 0, timer := none }

/-! ## The requester -/

/-- The record becomes ACTIVE at the end of a pull: no peer station, idle timer started (R57, R58, R59). -/
def activateRecord (client : Nat) (s : State) : State :=
  updateRecord client (fun r => { r with state := .active, peer := none, idle := some idleMs }) s

/-- R57 and R59: a pull ends with a fresh context; CONTEXT_LOST when it has failed. -/
def pullEndsFresh (lost : Bool) (client : Nat) (s : State) : State :=
  let s := activateRecord client (dropInflight client s)
  let s := if lost then raise .contextLost s else s
  hoePlace (.assocResult client .acceptedFresh (classOf client s) none []) s

/-- R57: attempt 2 of a pull. The first frame, if still unstarted, is withdrawn; a refusal of the second one fails the pull.
Which comes first matters only for a full URGENT queue. (DESIGN CHOICE, safe: log entry 11.) -/
def secondAttempt (e : Inflight) (s : State) : State :=
  let body := OutFrame.ctxPull e.client (sinceOf e.client s) 2
  let waits := decide (e.frame = .queued)
  if waits && Config.secondPullOfferedFirst && (queueAnswer e.peer body s).isNone then
    pullEndsFresh true e.client (queueFrame e.peer body s)
  else
    let s := if waits then withdrawFrame e.tag s else s
    match queueAnswer e.peer body s with
    | some tag =>
      updateInflight e.client
        (fun x => { x with attempt := 2, frame := .queued, tag := tag, timer := some responseMs })
        (queueFrame e.peer body s)
    | none =>
      pullEndsFresh true e.client
        (updateInflight e.client (fun x => { x with frame := .ended }) (queueFrame e.peer body s))

/-- R57: an attempt of a pull fails, by its timer or by a drop of its frame. -/
def pullAttemptFails (e : Inflight) (s : State) : State :=
  if e.attempt = 1 then secondAttempt e s else pullEndsFresh true e.client s

/-- R56: the HOE starts the pull of a record that has entered PULLING; a refused first frame is a drop (R48). -/
def startPull (client peer : Nat) (s : State) : State :=
  let body := OutFrame.ctxPull client (sinceOf client s) 1
  match queueAnswer peer body s with
  | some tag => addInflight (queuedEntry client .pull peer tag) (queueFrame peer body s)
  | none =>
    let e := refusedEntry client .pull peer
    secondAttempt e (addInflight e (queueFrame peer body s))

/-- R54: the entry that a reply from a station about a client matches. -/
def matching (kind : InflightKind) (source client : Nat) (s : State) : Option Inflight :=
  (findInflight client s).filter fun e => e.kind == kind && e.peer == source

/-- R55: replies are taken while the node is JOINED or MUTED. -/
def takesReplies (s : State) : Bool := s.cfl.node == .joined || s.cfl.node == .muted

/-- R58: a matching CTX_GRANT completes the pull with context. -/
def takeGrant (source : Nat) (g : GrantPayload) (s : State) : State :=
  if takesReplies s && (matching .pull source g.client s).isSome then
    let dropped := droppedStreams g.streams s
    let s := dropInflight g.client s
    let s := updateRecord g.client
      (fun r => { r with since := g.since, binding := if g.binding.isSome then g.binding else r.binding }) s
    let s := activateRecord g.client (deriveClass g.client (installStreams g.client g.streams s))
    hoePlace (.assocResult g.client .acceptedWithContext (classOf g.client s) none dropped) s
  else s

/-- R59: a matching CTX_NONE completes the pull without context. -/
def takeNone (source client : Nat) (s : State) : State :=
  if takesReplies s && (matching .pull source client s).isSome then pullEndsFresh false client s else s

/-- R59: a matching CTX_HELD removes the record. -/
def takeHeld (source client : Nat) (s : State) : State :=
  if takesReplies s && (matching .pull source client s).isSome then
    hoePlace (.assocResult client .refusedHeldElsewhere none none []) (removeRecord client (dropInflight client s))
  else s

/-! ## The holder -/

/-- R63: the RELEASING record of a grant that has ended is removed; a lost grant raises CONTEXT_LOST. -/
def removeGranted (lost : Bool) (client : Nat) (s : State) : State :=
  let s := removeRecord client s
  if lost then raise .contextLost s else s

/-- The pulls that a record remembers once it has granted its context to a station: the latest one for each station (R29). -/
def Record.grantedTo (p : Pull) (r : Record) : List Pull := (r.granted.filter fun x => x.station ≠ p.station) ++ [p]

/-- R60: the holder grants the context of a record to the requester. A refused CTX_GRANT is a drop (R48, R63). -/
def grantContext (source since : Nat) (r : Record) (s : State) : State :=
  let s := if r.state = .offering then dropInflight r.client s else s
  let s := updateRecord r.client
    (fun r => { r with state := .releasing, peer := some source, idle := none, timer := none,
                       granted := r.grantedTo { station := source, since := since } }) s
  let body := OutFrame.ctxGrant r.client r.since r.binding r.subs
  let accepted := (queueAnswer source body s).isSome
  let s := queueFrame source body s
  if accepted then s else removeGranted true r.client s

/-- R61: a holder whose own pull is out of date abandons it. -/
def abandonPull (source client : Nat) (s : State) : State :=
  let s := removeRecord client (dropInflight client s)
  let s := raise .contextLost (hoePlace (.dropClient client .moved) s)
  queueFrame source (.ctxNone client) s

/-- R60 to R62: the holder decides a CTX_PULL, from the record as it stands; only while JOINED (R55). A record that its grant to
this pull has left stands here only when that grant has been withdrawn: the retry meets CTX_NONE (R29). That the retry is known by
its station and since-time is DESIGN CHOICE (unsafe: log entry 25). -/
def takePull (source client since : Nat) (s : State) : State :=
  if s.cfl.node = .joined then
    match findRecord client s with
    | none => queueFrame source (.ctxNone client) s
    | some r =>
      match r.state with
      | .releasing => queueFrame source (.ctxNone client) s
      | .expected => queueFrame source (.ctxNone client) (removeRecord client s)
      | .pulling =>
        if r.since < since then abandonPull source client s else queueFrame source (.ctxHeld client) s
      | .active | .offering | .steered =>
        if { station := source, since := since } ∈ r.granted then queueFrame source (.ctxNone client) s
        else if s.sck.phase = .unknown ∨ r.since < since then grantContext source since r s
        else queueFrame source (.ctxHeld client) s
  else s

/-! ## Steering: the initiator -/

/-- An OFFERING record returns to ACTIVE, and its entry ends (R68, R69). -/
def offerEnds (client : Nat) (s : State) : State :=
  updateRecord client (fun r => { r with state := .active, peer := none }) (dropInflight client s)

/-- R66: the node starts an offer; a refused STEER_OFFER is a drop (R48, R69). -/
def startOffer (r : Record) (target : Nat) (s : State) : State :=
  let s := updateRecord r.client (fun r => { r with state := .offering, peer := some target }) s
  let body := OutFrame.steerOffer r.client (r.binding.map Binding.seat) r.subs.length
  match queueAnswer target body s with
  | some tag => addInflight (queuedEntry r.client .offer target tag) (queueFrame target body s)
  | none => offerEnds r.client (queueFrame target body s)

/-- R65, step 1: the candidates, latest in the list first, at most 4 of them. -/
def steerCandidates (s : State) : List Record :=
  (s.ast.records.reverse.filter fun r => r.state == .active && r.cls == .guest && !r.heard.isEmpty).take 4

/-- R65, step 2: a candidate's target, under the bound P - M. -/
def steerTarget (margin : Nat) (s : State) (r : Record) : Option Nat :=
  leastPressure r.heard true (some (s.prm.pressure - margin)) s

/-- R65, step 3: the first candidate with a target. -/
def steerChoice (margin : Nat) (s : State) : Option (Record × Nat) :=
  (steerCandidates s).findSome? fun r => (steerTarget margin s r).map fun t => (r, t)

/-- R64: whether an evaluation goes ahead. -/
def steerAllowed (s : State) : Bool :=
  s.prm.monitor != .normal && decide (s.hoe.inflight.length < inflightLimit) && s.hoe.backlog.isEmpty

/-- R64 to R66: one evaluation of steering. -/
def steerEvaluate (s : State) : State :=
  match s.cfl.config with
  | none => s
  | some c =>
    if steerAllowed s then
      match steerChoice c.margin s with
      | some (r, target) => startOffer r target s
      | none => s
    else s

/-- R67: a matching STEER_ACCEPT. -/
def takeAccept (source client : Nat) (s : State) : State :=
  if takesReplies s && (matching .offer source client s).isSome then
    let s := updateRecord client (fun r => { r with state := .steered, timer := some .steer }) (dropInflight client s)
    hoePlace (.steerDirective client source) s
  else s

/-- R68: a STEER_DECLINE sets the decline hold in every case, and ends a matching offer. -/
def takeDecline (source client : Nat) (s : State) : State :=
  if takesReplies s then
    let s := setDeclineHold source s
    if (matching .offer source client s).isSome then offerEnds client s else s
  else s

/-! ## Steering: the target -/

/-- R71: the bound seat gives a binding when the block's entry is CHECKED_IN by the client. -/
def offeredBinding (client : Nat) (boundSeat : Option Nat) (s : State) : Option Binding :=
  boundSeat.bind fun q =>
    match (seatEntry q s).map SeatEntry.standing with
    | some (.checkedIn t holder _) => if holder = client then some { ticket := t.number, seat := q } else none
    | _ => none

/-- R71: the first check that fails, or `none` when every check passes. -/
def offerCheck (c : NodeConfig) (client : Nat) (boundSeat : Option Nat) (s : State) : Option DeclineReason :=
  if (findRecord client s).isSome then some .already
  else if tableLimit ≤ s.clients then some .load
  else if s.prm.monitor ≠ .normal then some .load
  else if c.high ≤ hypothetical c s then some .load
  else if (offeredBinding client boundSeat s).isNone ∧ c.capacity ≤ s.guests then some .load
  else none

/-- R72: the record that reserves a place. -/
def expectedRecord (source client : Nat) (boundSeat : Option Nat) (s : State) : Record :=
  let b := offeredBinding client boundSeat s
  { client := client, state := .expected, cls := if b.isSome then .home else .guest, since := s.sck.time,
    heard := [], binding := b, subs := [], badCodes := 0, peer := some source, timer := some .expectation,
    idle := none, held := none, granted := [] }

/-- R71 and R72: a STEER_OFFER is decided; only while JOINED (R55). -/
def takeOffer (source client : Nat) (boundSeat : Option Nat) (s : State) : State :=
  match s.cfl.config with
  | none => s
  | some c =>
    if s.cfl.node = .joined then
      match offerCheck c client boundSeat s with
      | some reason => queueFrame source (.steerDecline client reason) s
      | none => queueFrame source (.steerAccept client) (addRecord (expectedRecord source client boundSeat s) s)
    else s

/-! ## Commands -/

/-- ADVERT_TIMER_EXPIRY (R11, R64): the timer restarts, an advert is queued, and steering is evaluated. -/
def execAdvertTimerExpiry (s : State) : Host.Outcome State Fault Refusal :=
  if s.prm.advertTimer.isNone then .next s
  else .next (steerEvaluate (queueAdvert (s.withPrm { s.prm with advertTimer := some advertMs })))

/-- A running response timer of an entry of that kind expires. -/
def responseExpiry (kind : InflightKind) (client : Nat) (act : Inflight → State → State) (s : State) : State :=
  match findInflight client s with
  | none => s
  | some e =>
    if e.kind = kind ∧ e.timer.isSome then
      act e (updateInflight client (fun e => { e with timer := none }) s)
    else s

/-- PULL_RESPONSE_TIMEOUT (R57). -/
def execPullResponseTimeout (client : Nat) (s : State) : Host.Outcome State Fault Refusal :=
  .next (responseExpiry .pull client pullAttemptFails s)

/-- OFFER_RESPONSE_TIMEOUT (R69). -/
def execOfferResponseTimeout (client : Nat) (s : State) : Host.Outcome State Fault Refusal :=
  .next (responseExpiry .offer client (fun e => offerEnds e.client) s)

end Sys2Proof.Machine
end

