-- ==== Sys2Proof/Machine/Admission.lean ====
section
/-! DEFINITION. Admission (02, R27 to R33) and the Handoff Engine's wait queue (03, R51, R52). -/

namespace Sys2Proof.Machine

/-- The node's own section, absent with the configuration values. -/
def State.ownSection (s : State) : Option Nat := s.cfl.config.map NodeConfig.sectionId

/-- R51: the wait queue holds at most 16 requests. -/
def waitLimit : Nat := 16

/-- An ASSOC_RESULT that answers an ASSOCIATE at once (R33). -/
def answerAssociate (client : Nat) (code : AssocCode) (cls : Option ClientClass) (s : State) : State :=
  astPlace (.assocResult client code cls none []) s

/-- R33: an accepted answer carries the record's class. -/
def answerAccepted (client : Nat) (code : AssocCode) (s : State) : State :=
  answerAssociate client code (classOf client s) s

/-! ## The wait queue -/

/-- R51: the HOE takes a pull; `readmit` says that the client is a wait-queue head being admitted again. -/
def pullTaken (readmit : Bool) (s : State) : Bool :=
  decide (s.hoe.inflight.length < inflightLimit) && (s.hoe.waitQueue.isEmpty || readmit) && s.hoe.backlog.isEmpty

/-- R51: a pull is not taken: the request replaces the client's waiting request, or waits at the tail, or is answered
REFUSED_BUSY. -/
def waitOrRefuse (q : AssocRequest) (s : State) : State :=
  if s.hoe.waitQueue.any fun w => w.client == q.client then
    s.withHoe { s.hoe with waitQueue := s.hoe.waitQueue.map fun w => if w.client = q.client then q else w }
  else if s.hoe.waitQueue.length < waitLimit then
    s.withHoe { s.hoe with waitQueue := s.hoe.waitQueue ++ [q] }
  else answerAssociate q.client .refusedBusy none s

/-! ## A client with a record (R28, R29) -/

/-- R28: a refresh restarts the idle timer and replaces the heard list. -/
def Record.refresh (own : Nat) (q : AssocRequest) (r : Record) : Record :=
  { r with idle := some idleMs, heard := normaliseHeard own q.heard }

/-- R29: the tag of the client's CTX_GRANT while it is still on the URGENT queue. -/
def queuedGrant (client : Nat) (s : State) : Option Nat :=
  (s.rbc.urgent.find? fun f => match f.body with | .ctxGrant c .. => c == client | _ => false).map TxFrame.tag

/-- R28: an ASSOCIATE meets an EXPECTED record. -/
def associateExpected (readmit : Bool) (r : Record) (q : AssocRequest) (s : State) : State :=
  let s := updateRecord q.client (fun r => { r with heard := normaliseHeard s.station q.heard }) s
  if s.sck.phase = .unknown then
    answerAccepted q.client .freshNoClock
      (updateRecord q.client
        (fun r => { r with state := .active, peer := none, timer := claimantTimerFor r.cls, idle := some idleMs }) s)
  else if pullTaken readmit s then
    startPull q.client (r.peer.getD 0)
      (updateRecord q.client (fun r => { r with state := .pulling, timer := claimantTimerFor r.cls }) s)
  else waitOrRefuse q s

/-- R29: an ASSOCIATE meets a RELEASING record. Of a withdrawn grant the record keeps the pull that the grant answered, so that the
peer's retry meets CTX_NONE (`takePull`). -/
def associateReleasing (q : AssocRequest) (s : State) : State :=
  match queuedGrant q.client s with
  | some tag =>
    answerAccepted q.client .accepted
      (updateRecord q.client
        (fun r => { r with state := .active, peer := none, timer := claimantTimerFor r.cls }.refresh s.station q)
        (withdrawFrame tag s))
  | none => updateRecord q.client (fun r => { r with held := some q }) s

/-- R28: an ASSOCIATE meets the client's record. -/
def associateKnown (readmit : Bool) (r : Record) (q : AssocRequest) (s : State) : State :=
  match r.state with
  | .active | .offering =>
    answerAccepted q.client .accepted (updateRecord q.client (Record.refresh s.station q) s)
  | .steered =>
    answerAccepted q.client .accepted (countSteerFailure
      (updateRecord q.client
        (fun r => { r with state := .active, peer := none, timer := none }.refresh s.station q) s))
  | .pulling => s
  | .expected => associateExpected readmit r q s
  | .releasing => associateReleasing q s

/-! ## A new client (R30, R31) -/

/-- R30: the class of a new record, or no room. -/
def newClass (q : AssocRequest) (s : State) : Option ClientClass :=
  if tableLimit ≤ s.clients then none
  else if (q.declaredSeat.map fun seat => seatTicketed seat s).getD false then some .claimant
  else if s.guests < s.capacity then some .guest
  else none

/-- R30: the answer REFUSED_FULL with its suggestion. -/
def refuseFull (q : AssocRequest) (s : State) : State :=
  astPlace (.assocResult q.client .refusedFull none
    (leastPressure (normaliseHeard s.station q.heard) false none s) []) s

/-- R23 and R31: a new record of an ASSOCIATE, in ACTIVE or, with a pull source, in PULLING. -/
def newRecord (q : AssocRequest) (cls : ClientClass) (source : Option Nat) (s : State) : Record :=
  { client := q.client, state := if source.isSome then .pulling else .active, cls := cls, since := s.sck.time,
    heard := normaliseHeard s.station q.heard, binding := none, subs := [], badCodes := 0, peer := source,
    timer := claimantTimerFor cls, idle := if source.isSome then none else some idleMs, held := none,
    granted := [] }

/-- R31: how the record of a new client begins. -/
inductive Beginning where
  | active (answer : AssocCode)
  | pull (source : Nat)
  deriving DecidableEq, Repr

/-- R31: the first row of the table that fits. -/
def beginning (q : AssocRequest) (s : State) : Beginning :=
  if q.prevSection.isSome ∧ q.prevSection ≠ s.ownSection then .active .freshForeign
  else match q.prevStation with
    | none => .active .accepted
    | some a =>
      if a = s.station then .active .accepted
      else if s.sck.phase = .unknown then .active .freshNoClock
      else .pull a

/-- R30 and R31: an ASSOCIATE of a client with no record. -/
def associateNew (readmit : Bool) (q : AssocRequest) (s : State) : State :=
  match newClass q s with
  | none => refuseFull q s
  | some cls =>
    match beginning q s with
    | .active code => answerAccepted q.client code (addRecord (newRecord q cls none s) s)
    | .pull source =>
      if pullTaken readmit s then startPull q.client source (addRecord (newRecord q cls (some source) s) s)
      else waitOrRefuse q s

/-! ## Admission (R27) -/

/-- R27: admission of an ASSOCIATE, from the inbound queue, the wait queue (`readmit`) or a held association. -/
def associate (readmit : Bool) (q : AssocRequest) (s : State) : State :=
  match s.cfl.node with
  | .joined =>
    match findRecord q.client s with
    | some r => associateKnown readmit r q s
    | none => associateNew readmit q s
  | .muted =>
    match findRecord q.client s with
    | some r =>
      if r.state.served then associateKnown readmit r q s else answerAssociate q.client .refusedMuted none s
    | none => answerAssociate q.client .refusedMuted none s
  | .listening => answerAssociate q.client .refusedStarting none s
  | .unconfigured => answerAssociate q.client .refusedUnconfigured none s
  | .loading => s

/-! ## Commands -/

/-- ASSOCIATE (R27). -/
def execAssociate (s : State) : Host.Outcome State Fault Refusal := takeRequest 64 readAssociate (associate false) s

/-- WAIT_QUEUE_HEAD (R52): the head is removed and admitted again in full. -/
def execWaitQueueHead (s : State) : Host.Outcome State Fault Refusal :=
  match s.hoe.waitQueue with
  | [] => .next s
  | q :: rest =>
    if waitReady s && waitTurn s then .next (associate true q (s.withHoe { s.hoe with waitQueue := rest }))
    else .next s

end Sys2Proof.Machine
end

