-- ==== Sys2Proof/Machine/CheckIn.lean ====
section
/-! DEFINITION. Ticket Check-in (05, R95 to R115): presentations, the check code, the owner decision, and remote claims at both
ends. -/

namespace Sys2Proof.Machine

/-! ## The seat entry -/

/-- The state with the entry of a seat of the block changed. -/
def updateSeat (q : Nat) (f : SeatEntry → SeatEntry) (s : State) : State :=
  match seatIndex q s with
  | none => s
  | some i => s.withEns { s.ens with seats := s.ens.seats.modify i f }

/-! ## The owner decision -/

/-- R99: what the owner decision finds, by the first row that fits. `checkIn` is ADMITTED on an ISSUED entry, `again`
ADMITTED on an entry CHECKED_IN by the presenting client. -/
inductive Decision where
  | unknownSeat | voided | notCurrent
  | checkIn (ticket : Ticket)
  | again
  | duplicate (ticket : Ticket) (holder : Nat)
  deriving DecidableEq, Repr

/-- R99: the presented ticket number and serial are those of the entry. -/
def Ticket.presented (t : Ticket) (number serial : Nat) : Bool := t.number == number && t.serial == serial

/-- R99: the owner decision. -/
def decideSeat (client ticket serial : Nat) : Standing → Decision
  | .empty => .unknownSeat
  | .void _ => .voided
  | .issued t => if t.presented ticket serial then .checkIn t else .notCurrent
  | .checkedIn t holder _ =>
    if !t.presented ticket serial then .notCurrent
    else if holder = client then .again
    else .duplicate t holder

/-- R99: the verdict of a decision. -/
def Decision.verdict : Decision → Verdict
  | .unknownSeat => .unknownSeat | .voided => .voided | .notCurrent => .notCurrent
  | .checkIn _ | .again => .admitted
  | .duplicate .. => .duplicate

/-- R89 and R101: the duplicate count rises to at most 15. -/
def SeatEntry.countDuplicate (e : SeatEntry) : SeatEntry := { e with duplicates := satAdd 15 e.duplicates 1 }

/-- R89 and R100 to R101: the writes, the notice and the frames of a decision on seat q. -/
def applyDecision (client q : Nat) (d : Decision) (s : State) : State :=
  match d with
  | .checkIn t =>
    let s := updateSeat q (fun e => { e with standing := .checkedIn t client s.sck.time }) s
    queueFrame 0 (.checkinNote q t.number client s.sck.time) s
  | .duplicate t holder =>
    let s := raise .duplicate (updateSeat q SeatEntry.countDuplicate s)
    queueFrame 0 (.incident q t.number holder client) s
  | .unknownSeat | .voided | .notCurrent | .again => s

/-- R101: the duplicate count that a DUPLICATE carries, after the increment; 0 for any other verdict. -/
def verdictCount (q : Nat) (d : Decision) (s : State) : Nat :=
  match d with
  | .duplicate .. => ((seatEntry q s).map SeatEntry.duplicates).getD 0
  | _ => 0

/-- R99: the decision on a seat of the block; none for a seat outside it. -/
def ownerDecision (client ticket serial q : Nat) (s : State) : Option Decision :=
  (seatEntry q s).map fun e => decideSeat client ticket serial e.standing

/-! ## Results -/

/-- The CHECKIN_RESULT code of a verdict (R111). -/
def Verdict.result : Verdict → CheckinCode
  | .admitted => .admitted | .unknownSeat => .unknownSeat | .voided => .voided | .notCurrent => .notCurrent
  | .duplicate => .duplicate | .noOwner => .noOwner

/-- R111: the deciding station of a presentation decided at the node. While the node has no address, a free value.
(DESIGN CHOICE, safe: log entry 10.) -/
def decidingStation (s : State) : Nat :=
  match s.cfl.config with
  | some c => c.station
  | none => Config.freeStation s.free % 256

/-- The counter of free values after a deciding station has been given. -/
def stationGiven (s : State) : State := if s.cfl.config.isNone then nextFree s else s

/-- A CHECKIN_RESULT decided at the node is placed (R102, R111). -/
def placeLocalResult (p : Presentation) (code : CheckinCode) (duplicates : Nat) (s : State) : State :=
  stationGiven (ckuPlace (.checkinResult p.client p.ticket p.seat code (decidingStation s) duplicates) s)

/-- R102: a refusal decided at the node, handed to the AST (R41). -/
def refuseLocally (p : Presentation) (code : CheckinCode) (duplicates : Nat) (s : State) : State :=
  claimantFallback p.client (placeLocalResult p code duplicates s)

/-- R99 to R102: a presentation for a seat of the block. -/
def presentLocally (p : Presentation) (d : Decision) (s : State) : State :=
  let s := applyDecision p.client p.seat d s
  match d.verdict with
  | .admitted =>
    localAdmitted p.client { ticket := p.ticket, seat := p.seat } (placeLocalResult p .admitted 0 s)
  | v => refuseLocally p v.result (verdictCount p.seat d s) s

/-! ## Remote claims: the presenting node -/

/-- R103: the pending-claim list holds at most 8 entries. -/
def claimLimit : Nat := 8

/-- R103: the claim timer's duration, 1.500 s. -/
def claimMs : Nat := 1500

/-- R106, R111: a CHECKIN_RESULT that names the owner station. -/
def placeOwnerResult (client ticket seat : Nat) (code : CheckinCode) (owner duplicates : Nat) (s : State) : State :=
  ckuPlace (.checkinResult client ticket seat code owner duplicates) s

/-- R104, R114: a presentation for a seat of a peer. A claim that cannot be queued ends at once, OWNER_SILENT (R105). -/
def startClaim (p : Presentation) (owner : Nat) (s : State) : State :=
  if claimLimit ≤ s.cku.claims.length then refuseLocally p .busy 0 s
  else
    let body := OutFrame.checkinClaim p.client p.ticket p.seat p.serial p.tier
    match queueAnswer owner body s with
    | some tag =>
      let s := queueFrame owner body s
      s.withCku { s.cku with claims := s.cku.claims ++
        [{ client := p.client, ticket := p.ticket, seat := p.seat, owner := owner, frame := .queued, tag := tag,
           timer := some claimMs }] }
    | none =>
      claimantFallback p.client
        (placeOwnerResult p.client p.ticket p.seat .ownerSilent owner 0 (queueFrame owner body s))

/-- R106: the AST acts on a relayed result. (DESIGN CHOICE, safe: log entry 21.) -/
def relayResult (c : Claim) (code : CheckinCode) (s : State) : State :=
  let s := if code = .admitted then
      deriveClass c.client
        (updateRecord c.client (fun r => { r with binding := some { ticket := c.ticket, seat := c.seat } }) s)
    else s
  claimantFallback c.client s

/-- R106: a pending claim ends with a result. -/
def endClaim (c : Claim) (code : CheckinCode) (duplicates : Nat) (s : State) : State :=
  let s := dropClaim c.client s
  match findRecord c.client s with
  | none => s
  | some r =>
    if r.state.served then
      relayResult c code (placeOwnerResult c.client c.ticket c.seat code c.owner duplicates s)
    else s

/-- R107: the pending claim that a verdict matches. -/
def matchingClaim (source : Nat) (v : VerdictPayload) (s : State) : Option Claim :=
  (findClaim v.client s).filter fun c => c.owner == source && c.seat == v.seat && c.ticket == v.ticket

/-- R106 and R107: a CHECKIN_VERDICT is taken, while JOINED or MUTED. -/
def takeVerdict (source : Nat) (v : VerdictPayload) (s : State) : State :=
  if takesReplies s then
    match matchingClaim source v s with
    | some c => endClaim c v.result.result (if v.result = .duplicate then v.duplicates else 0) s
    | none => s
  else s

/-! ## Remote claims: the owner -/

/-- R109: a CHECKIN_CLAIM is taken, while JOINED and addressed to the node alone. -/
def takeClaim (source dest : Nat) (c : ClaimPayload) (s : State) : State :=
  if s.cfl.node = .joined ∧ dest = s.station then
    match ownerDecision c.client c.ticket c.serial c.seat s with
    | none => queueFrame source (.checkinVerdict c.client c.ticket c.seat .noOwner 0) s
    | some d =>
      let s := applyDecision c.client c.seat d s
      queueFrame source (.checkinVerdict c.client c.ticket c.seat d.verdict (verdictCount c.seat d s)) s
  else s

/-! ## Presentations -/

/-- R97: the ten bytes that the check code covers. -/
def codeBytes (p : Presentation) : List Byte :=
  beBytes 4 p.ticket ++ beBytes 2 p.seat ++ beBytes 1 p.sectionId ++ beBytes 1 p.tier ++ beBytes 2 p.serial

/-- R97: the check code that the node computes. -/
def checkCode (siteKey : BitVec 16) (p : Presentation) : BitVec 16 := crc16 siteKey (codeBytes p)

/-- R98: a record's bad-code count reaches at most 4. -/
def badCodeLimit : Nat := 4

/-- R96: the seat lies in some block. -/
def seatInSection (q : Nat) : Bool := decide (1 ≤ q) && decide (q ≤ 4095)

/-- R96: the seven checks, for a record found ACTIVE. -/
def presentActive (c : NodeConfig) (r : Record) (p : Presentation) (s : State) : State :=
  if (findClaim p.client s).isSome then refuseLocally p .busy 0 s
  else if r.badCodes = badCodeLimit then refuseLocally p .lockedOut 0 s
  else if p.sectionId ≠ c.sectionId then refuseLocally p .wrongSection 0 s
  else if checkCode c.siteKey p ≠ p.code then
    refuseLocally p .badCode 0
      (updateRecord p.client (fun r => { r with badCodes := satAdd badCodeLimit r.badCodes 1 }) s)
  else match ownerDecision p.client p.ticket p.serial p.seat s with
    | some d => presentLocally p d s
    | none =>
      match (if seatInSection p.seat then ownerOf p.seat s else none) with
      | some owner => startClaim p owner s
      | none => refuseLocally p .noOwner 0 s

/-- R95: a PRESENT_TICKET is taken. -/
def present (p : Presentation) (s : State) : State :=
  let s := restartIdle p.client s
  match findRecord p.client s, s.cfl.config with
  | some r, some c =>
    if r.state = .active then presentActive c r p s else placeLocalResult p .notAssociated 0 s
  | _, _ => placeLocalResult p .notAssociated 0 s

/-! ## Commands -/

/-- PRESENT_TICKET (R95). -/
def execPresentTicket (s : State) : Host.Outcome State Fault Refusal := takeRequest 67 readPresent present s

/-- CLAIM_TIMER_EXPIRY (R106): the claim ends OWNER_SILENT. -/
def execClaimTimerExpiry (client : Nat) (s : State) : Host.Outcome State Fault Refusal :=
  match findClaim client s with
  | none => .next s
  | some c => if c.timer.isSome then .next (endClaim c .ownerSilent 0 s) else .next s

end Sys2Proof.Machine
end

