-- ==== Sys2Proof/Machine/Reports.lean ====
section
/-! DEFINITION. The RBC's reports as their originators take them (R175): start of transmission, "sent" and "dropped" (R48, R57,
R63, R69, R105), the end of a grant with its held association (R29), and the move to MUTED (R177, R200). -/

namespace Sys2Proof.Machine

/-- R29 and R63: a CTX_GRANT has ended. The RELEASING record is removed, and its held association is admitted again as a new
client whose previous station is the grant's recipient. -/
def grantEnded (lost : Bool) (client : Nat) (s : State) : State :=
  match findRecord client s with
  | none => s
  | some r =>
    if r.state = .releasing then
      let s := removeGranted lost client s
      match r.held with
      | none => s
      | some q => associate false { q with prevStation := r.peer, prevSection := s.ownSection } s
    else s

/-- R171 and R175: the start of transmission (R48, R105). -/
def reportStart (f : TxFrame) (s : State) : State := markFrame f.tag .inTransmission s

/-- R172 and R175: "sent" (R48, R63, R105). -/
def reportSent (f : TxFrame) (s : State) : State :=
  match f.body with
  | .ctxGrant client .. => grantEnded false client s
  | _ => markFrame f.tag .ended s

/-- The in-flight entry that follows a frame (R48). -/
def entryOf (f : TxFrame) (s : State) : Option Inflight := s.hoe.inflight.find? fun e => e.tag == f.tag

/-- The pending claim that follows a frame (R105). -/
def claimOf (f : TxFrame) (s : State) : Option Claim := s.cku.claims.find? fun c => c.tag == f.tag

/-- R48: the frame has ended and the response timer stops. -/
def Inflight.dropped (e : Inflight) : Inflight := { e with frame := .ended, timer := none }

/-- R175: "dropped": a pull attempt fails (R57), an offer fails (R69), a grant ends lost (R63), a claim ends OWNER_SILENT
(R105); the drop of any other frame has no effect at its originator (R14, R92, R110, R113). -/
def reportDropped (f : TxFrame) (s : State) : State :=
  match f.body with
  | .ctxGrant client .. => grantEnded true client s
  | .ctxPull .. =>
    match entryOf f s with
    | some e => pullAttemptFails e.dropped (updateInflight e.client Inflight.dropped s)
    | none => s
  | .steerOffer .. =>
    match entryOf f s with
    | some e => offerEnds e.client (updateInflight e.client Inflight.dropped s)
    | none => s
  | .checkinClaim .. =>
    match claimOf f s with
    | some c =>
      endClaim c .ownerSilent 0
        (s.withCku { s.cku with claims := s.cku.claims.map fun x => if x.tag = f.tag then { x with frame := .ended } else x })
    | none => s
  | .loadAdvert .. | .ctxNone .. | .ctxHeld .. | .steerAccept .. | .steerDecline .. | .checkinVerdict .. | .checkinNote ..
  | .incident .. | .resyncRequest .. => s

/-- R177: the frames the RBC holds, in the order in which it ends them. -/
def Rbc.held (r : Rbc) : List TxFrame := (r.transmitter.map Transmitter.frame).toList ++ r.urgent ++ r.routine

/-- R15: the PRM on the move to MUTED. -/
def Prm.muted (p : Prm) : Prm := { p with advertTimer := none, holdOff := none, heldTrigger := false }

/-- R177: the RBC holds no frame. -/
def Rbc.emptied (r : Rbc) : Rbc := { r with urgent := [], routine := [], transmitter := none, driven := [] }

/-- The blocks' own states at the move to MUTED, before the reports (R15, R177, R198, R200). -/
def mutedState (s : State) : State :=
  ((s.withCfl { s.cfl with node := .muted, listenTimer := none }).withPrm s.prm.muted).withRbc s.rbc.emptied

/-- R177 and R200: the node moves from LISTENING or JOINED to MUTED, and every frame held is reported "dropped". -/
def enterMuted (s : State) : State := s.rbc.held.foldl (fun s f => reportDropped f s) (mutedState s)

end Sys2Proof.Machine
end

