-- ==== Sys2Proof/Machine/Entitlements.lean ====
section
/-! DEFINITION. Seat Entitlements (04, R76 to R94): the freeze groups, the steps and actions of an ENTITLEMENT frame, the ticket rule,
freezing and unfreezing. -/

namespace Sys2Proof.Machine

/-! ## Freeze groups -/

/-- R77: the width of a freeze group. -/
def groupWidth (seatCount : Nat) : Nat := (seatCount + 15) / 16

/-- R77: the freeze group of the seat with an index. -/
def groupOf (seatCount index : Nat) : Nat := index / groupWidth seatCount

/-- R78: the group of the seat with an index is frozen. -/
def frozenAt (c : NodeConfig) (index : Nat) (s : State) : Bool := s.ens.freeze.getLsbD (groupOf c.seatCount index)

/-! ## Shared effects -/

/-- An EMPTY entry (R76, R83, R94). -/
def emptySeat : SeatEntry := { standing := .empty, revision := 0, duplicates := 0 }

/-- The ticket number that an entry holds (R76). -/
def Standing.ticketNumber : Standing → Option Nat
  | .empty => none
  | .issued t | .checkedIn t _ _ | .void t => some t.number

/-- R82, R83: one stale update more. -/
def countStale (s : State) : State := s.withEns { s.ens with staleUpdates := count16 s.ens.staleUpdates }

/-- R81: a frame is refused as frozen. -/
def refuseFrozen (s : State) : State :=
  raise .frozenUpdate (s.withEns { s.ens with frozenRefusals := count16 s.ens.frozenRefusals })

/-- The entry at an index is written. -/
def writeSeat (index : Nat) (e : SeatEntry) (s : State) : State :=
  s.withEns { s.ens with seats := s.ens.seats.set index e }

/-- R84: the entry at an index is written, and the client whose check-in it ends is demoted (R40). -/
def replaceSeat (c : NodeConfig) (index : Nat) (e : SeatEntry) (s : State) : State :=
  let old := (s.ens.seats[index]?).map SeatEntry.standing
  let s := writeSeat index e s
  match old with
  | some (.checkedIn _ client _) => demote client (c.firstSeat + index) s
  | _ => s

/-- R83: the index of another entry of the block that holds the ticket number. -/
def otherHolder (index number : Nat) (s : State) : Option Nat :=
  (List.range s.ens.seats.length).find? fun i =>
    i != index && ((s.ens.seats[i]?).bind fun e => e.standing.ticketNumber) == some number

/-- R83: a ticket number is placed on an entry. A ticket held on a seat of a frozen group refuses the frame; held elsewhere,
the other seat is released first. -/
def placeTicket (c : NodeConfig) (index number : Nat) (apply : State → State) (s : State) : State :=
  match otherHolder index number s with
  | none => apply s
  | some i => if frozenAt c i s then refuseFrozen s else apply (replaceSeat c i emptySeat s)

/-! ## The actions -/

/-- R85 and R86: the entry becomes ISSUED with the frame's ticket. -/
def placeIssue (c : NodeConfig) (index : Nat) (a : Entitlement) (s : State) : State :=
  placeTicket c index a.ticket.number
    (replaceSeat c index { standing := .issued a.ticket, revision := a.revision, duplicates := 0 }) s

/-- The notice TICKET_REISSUED follows a frame that has not been refused under the ticket rule (R83, R86). -/
def placeReissue (c : NodeConfig) (index : Nat) (a : Entitlement) (s : State) : State :=
  placeTicket c index a.ticket.number
    (fun s => raise .ticketReissued
      (replaceSeat c index { standing := .issued a.ticket, revision := a.revision, duplicates := 0 } s)) s

/-- R85: ISSUE; R86: REISSUE. Both act alike on each state of the entry. -/
def applyIssue (c : NodeConfig) (index : Nat) (e : SeatEntry) (a : Entitlement) (s : State) : State :=
  match e.standing with
  | .empty | .void _ => placeIssue c index a s
  | .issued _ | .checkedIn .. => placeReissue c index a s

/-- R87: VOID. -/
def applyVoid (c : NodeConfig) (index : Nat) (e : SeatEntry) (a : Entitlement) (s : State) : State :=
  match e.standing with
  | .empty =>
    placeTicket c index a.ticket.number
      (replaceSeat c index { standing := .void a.ticket, revision := a.revision, duplicates := 0 }) s
  | .issued t | .checkedIn t _ _ | .void t =>
    replaceSeat c index { e with standing := .void t, revision := a.revision } s

/-- R88: CLEAR_CHECKIN. -/
def applyClear (c : NodeConfig) (index : Nat) (e : SeatEntry) (a : Entitlement) (s : State) : State :=
  match e.standing with
  | .checkedIn t _ _ => replaceSeat c index { e with standing := .issued t, revision := a.revision } s
  | .empty | .issued _ | .void _ => s

/-- R80: the state that a fill gives an EMPTY entry. -/
def fillStanding (now : Nat) (a : Entitlement) : Standing :=
  match a.fill, a.client with
  | some .checkedIn, some client => .checkedIn a.ticket client (a.time.getD now)
  | some .void, _ => .void a.ticket
  | _, _ => .issued a.ticket

/-- R80 and R83: RESYNC_FILL. -/
def applyFill (index : Nat) (e : SeatEntry) (a : Entitlement) (s : State) : State :=
  match e.standing with
  | .empty =>
    if (otherHolder index a.ticket.number s).isSome then countStale s
    else writeSeat index { standing := fillStanding s.sck.time a, revision := a.revision, duplicates := 0 } s
  | .issued _ | .checkedIn .. | .void _ => s

/-- R79, step 5: the action is applied. -/
def applyAction (c : NodeConfig) (index : Nat) (e : SeatEntry) (a : Entitlement) (s : State) : State :=
  match a.action with
  | .issue | .reissue => applyIssue c index e a s
  | .void => applyVoid c index e a s
  | .clearCheckin => applyClear c index e a s
  | .resyncFill => applyFill index e a s

/-- R79, steps 2 to 5, against the entry of a seat of the block. -/
def decideEntitlement (c : NodeConfig) (index : Nat) (e : SeatEntry) (a : Entitlement) (s : State) : State :=
  if a.action = .resyncFill then applyFill index e a s
  else if frozenAt c index s then refuseFrozen s
  else if a.revision ≤ e.revision then countStale s
  else applyAction c index e a s

/-- R79: an ENTITLEMENT frame is taken. -/
def takeEntitlement (a : Entitlement) (s : State) : State :=
  if !s.hearing then s
  else match s.cfl.config, seatIndex a.seat s with
    | some c, some index =>
      match s.ens.seats[index]? with
      | some e => decideEntitlement c index e a s
      | none => s
    | _, _ => s

/-! ## Freezing -/

/-- R90: the flags of a mask are set in the freeze map. -/
def freezeGroups (mask : BitVec 16) (s : State) : State := s.withEns { s.ens with freeze := s.ens.freeze ||| mask }

/-- The node's own first seat is the frame's target (R90, R91). -/
def targeted (target : Nat) (s : State) : Bool :=
  s.hearing && (s.cfl.config.map NodeConfig.firstSeat == some target)

/-- R90: a FREEZE is taken. -/
def takeFreeze (target : Nat) (mask : BitVec 16) (s : State) : State :=
  if targeted target s then freezeGroups mask s else s

/-- R91: an UNFREEZE is taken: service mode clears the flags, normal mode refuses. -/
def takeUnfreeze (target : Nat) (mask : BitVec 16) (s : State) : State :=
  if targeted target s then
    if s.cfl.service then s.withEns { s.ens with freeze := s.ens.freeze &&& ~~~mask }
    else raise .unfreezeRefused s
  else s

end Sys2Proof.Machine
end

