-- ==== Sys2Proof/Machine/SlotFrame.lean ====
section
/-! DEFINITION. Replay Slot Frame (07, R137 to R154): the slot maps, the rebuild, the handling of a slot, segment choice, underruns,
SLOT_OUT records, replay reset. -/

namespace Sys2Proof.Machine

/-! ## The map rebuild (R139 to R142) -/

/-- R139: the order of the streams within a group: priority, then wanted-since, then stream id. -/
def Stream.before (a b : Stream) : Bool :=
  let ta := a.wantedSince.getD 0
  let tb := b.wantedSince.getD 0
  decide (a.priority < b.priority) || (a.priority == b.priority &&
    (decide (ta < tb) || (ta == tb && decide (a.id < b.id))))

/-- A stream put into a sorted group. -/
def insertStream (st : Stream) : List Stream → List Stream
  | [] => [st]
  | x :: xs => if st.before x then st :: x :: xs else x :: insertStream st xs

/-- A group in its order. -/
def sortStreams (l : List Stream) : List Stream := l.foldr insertStream []

/-- R139: a stream of the draining group. -/
def Stream.drains (st : Stream) : Bool := st.state == .draining

/-- R139: a stream of the wanting group. -/
def Stream.wants (st : Stream) : Bool :=
  (st.state == .wanted || st.state == .live || st.state == .starved) && decide (0 < st.subscribers) && !st.withdrawn

/-- R139: the streams of the order list, in order. -/
def orderedStreams (s : State) : List Stream :=
  sortStreams (s.rpc.streams.filter Stream.drains) ++ sortStreams (s.rpc.streams.filter Stream.wants)

/-- R140: the slots that a stream asks. -/
def slotsAsked (s : State) (st : Stream) : Nat :=
  if st.state = .draining then (if slotsInForce st.id s = 0 then 1 else slotsInForce st.id s) else st.demand

/-- R140: the pool is handed out down the order list. -/
def handOut (s : State) : Nat → List Stream → List (Stream × Nat)
  | _, [] => []
  | remaining, st :: rest =>
    let given := min (slotsAsked s st) remaining
    (st, given) :: handOut s (remaining - given) rest

/-- R141: the run of a stream. -/
def runOf (g : Stream × Nat) : List (Option Place) :=
  List.replicate g.2 (some { stream := g.1.id, padding := g.1.padding, alignment := g.1.alignment })

/-- R141: the places of a map of `slots` slots: the runs begin at slot `slots` less the pool. -/
def placeRuns (slots pool : Nat) (given : List (Stream × Nat)) : List (Option Place) :=
  let used := List.replicate (slots - pool) none ++ given.flatMap runOf
  used ++ List.replicate (slots - used.length) none

/-- R139 to R141: the map built from the streams as they stand, with the pool handed over. -/
def buildMap (pool : Nat) (s : State) : SlotMap :=
  let given := handOut s pool (orderedStreams s)
  { places := placeRuns s.slots pool given
    order := given.map fun g => { stream := g.1.id, born := g.1.born, given := g.2 }
    pool := pool }

/-- R143: an empty map. -/
def emptyMap (slots : Nat) : SlotMap := { places := List.replicate slots none, order := [], pool := 0 }

/-- R139 and R8: the rebuild at the last-slot start. -/
def rebuild (s : State) : State :=
  let s := restoreHoldStep s
  s.withSls { s.sls with nextMap := some (buildMap (pool s) s) }

/-! ## Putting a map in force (R143) -/

/-- R123 and R143: a stream follows the new map when the map's order list holds its entry. -/
def Stream.follow (m : SlotMap) (st : Stream) : Stream :=
  if (m.order.any fun e => e.stream == st.id && e.born == st.born) &&
      (st.state == .wanted || st.state == .live || st.state == .starved) then
    { st with state := if 0 < m.slotsOf st.id then .live else .starved }
  else st

/-- R143: the map that comes into force at a frame start. -/
def comingMap (s : State) : SlotMap :=
  if s.sls.resetPending then emptyMap s.slots else s.sls.nextMap.getD (emptyMap s.slots)

/-- R143: a map is put in force: the recompute (R4), the stream states (R123). -/
def putInForce (s : State) : State :=
  let m := comingMap s
  let s := recompute (s.withSls { s.sls with inForce := some m, nextMap := none, resetPending := false })
  s.withRpc { s.rpc with streams := s.rpc.streams.map (Stream.follow m) }

/-! ## Choosing a segment (R146) -/

/-- The COMPLETE records of a stream, in the cache's order. -/
def completeOf (id : Nat) (s : State) : List SegmentRecord :=
  s.rpc.cache.filter fun r => r.stream == id && r.state == .complete

/-- The COMPLETE records of a stream that a test names become SPENT. -/
def spendWhere (id : Nat) (test : SegmentRecord → Bool) (s : State) : State :=
  s.withRpc { s.rpc with cache := s.rpc.cache.map fun r =>
    if r.stream == id && r.state == .complete && test r then { r with state := .spent } else r }

/-- R146, step 1: the behind records. -/
def spendBehind (id : Nat) (last : Option Nat) (s : State) : State :=
  match last with
  | none => s
  | some t => spendWhere id (fun r => !seqAhead r.sequence t) s

/-- R146, step 2: the newest 4 of the COMPLETE records. -/
def newestFour (last : Option Nat) (l : List SegmentRecord) : List SegmentRecord :=
  match last with
  | none => l.drop (l.length - 4)
  | some t => l.filter fun r => decide ((l.countP fun x => decide (seqDistance r.sequence t < seqDistance x.sequence t)) < 4)

/-- R146, step 2: the lag cut. -/
def lagCut (id : Nat) (last : Option Nat) (s : State) : State :=
  let l := completeOf id s
  if 8 < l.length then
    let kept := (newestFour last l).map SegmentRecord.sequence
    let s := spendWhere id (fun r => !kept.contains r.sequence) s
    s.withSls { s.sls with skips := satAdd 65535 s.sls.skips (l.length - 4) }
  else s

/-- R146, step 3: the record nearest ahead, or the earliest in the cache. -/
def nearest (last : Option Nat) (l : List SegmentRecord) : Option SegmentRecord :=
  match last with
  | none => l.head?
  | some t => l.foldl (fun acc r =>
      match acc with
      | none => some r
      | some a => if seqDistance r.sequence t < seqDistance a.sequence t then some r else some a) none

/-! ## Emission (R145, R147 to R149) -/

/-- R149: the capacity of a slot. -/
def slotCapacity : Nat := 1024

/-- R149: the SLOT_OUT record of a chunk. -/
def chunkOut (kind : SlotKind) (slot : Nat) (p : Place) (c : EmittedChunk) : SlotOut :=
  { slot := slot, stream := p.stream, kind := kind, sequence := some c.sequence, index := some c.index,
    alignment := p.alignment, pad := slotCapacity - c.payload.length, payload := c.payload }

/-- R149: the SLOT_OUT record of a filler. -/
def fillOut (slot : Nat) (p : Place) : SlotOut :=
  { slot := slot, stream := p.stream, kind := .fill, sequence := none, index := none, alignment := p.alignment,
    pad := slotCapacity, payload := [] }

/-- R145: the current segment ends with its last chunk. -/
def endSegment (id seq : Nat) (s : State) : State :=
  let s := updateSegment id seq (fun r => { r with state := .spent }) s
  let s := updateStream id (fun st =>
    { st with cursor := { st.cursor with current := none, nextIndex := 0, lastSent := some seq } }) s
  match findStream id s with
  | some st => if st.state = .draining then finishDraining id s else s
  | none => s

/-- R145: chunk `index` of the current segment is emitted. -/
def emitChunk (p : Place) (r : SegmentRecord) (index : Nat) (s : State) : State :=
  let c : EmittedChunk := { sequence := r.sequence, index := index, payload := (chunkAt index r.chunks).getD [] }
  let s := placeOnSlotLane (chunkOut .chunk s.sls.slot p c) s
  let s := updateStream p.stream (fun st =>
    { st with underruns := 0
              cursor := { st.cursor with current := some r.sequence, nextIndex := index + 1, lastEmitted := some c } }) s
  if index + 1 = r.count then endSegment p.stream r.sequence s else s

/-- R147: what an underrun slot carries. -/
def underrunOut (slot : Nat) (p : Place) (st : Stream) : SlotOut :=
  match p.padding, st.cursor.lastEmitted with
  | .rep, some c => chunkOut .rep slot p c
  | _, _ => fillOut slot p

/-- R147 and R148: an underrun. -/
def underrun (p : Place) (st : Stream) (s : State) : State :=
  let s := placeOnSlotLane (underrunOut s.sls.slot p st) s
  let s := updateStream p.stream (fun st => { st with underruns := count16 st.underruns }) s
  if count16 st.underruns = 8 then raise .underrun s else s

/-- R145 and R146: the cursor has no current segment: one is chosen, or the slot is an underrun. -/
def emitNext (p : Place) (st : Stream) (s : State) : State :=
  let last := st.cursor.lastSent
  let s := lagCut p.stream last (spendBehind p.stream last s)
  match nearest last (completeOf p.stream s) with
  | some r => emitChunk p r 0 (updateSegment p.stream r.sequence (fun r => { r with state := .sending }) s)
  | none => underrun p st s

/-- R145: a slot is emitted for a stream. -/
def emitSlot (p : Place) (st : Stream) (s : State) : State :=
  match st.cursor.current with
  | none => emitNext p st s
  | some seq =>
    match findSegment p.stream seq s with
    | some r => emitChunk p r st.cursor.nextIndex s
    | none => s

/-- The place of a slot in the map in force; none where it is unassigned. -/
def placeAt (slot : Nat) (s : State) : Option Place := (s.sls.inForce.bind fun m => m.places[slot]?).join

/-- R144: the current slot is handled under the map in force. -/
def handleSlot (s : State) : State :=
  match placeAt s.sls.slot s with
  | none => s
  | some p =>
    match findStream p.stream s with
    | none => s
    | some st => if st.state = .idle then s else emitSlot p st s

/-! ## The start of a slot -/

/-- R150: the SLOT_OUT records that stay on the slot lane at the end of their slot: the one whose sending has begun. -/
def keptSlotOut (r : Rsl) : List SlotOut := if r.sending = some .slot then r.slotLane.take 1 else []

/-- R150: the unsent records of the ending slot are discarded and counted. -/
def discardUnsent (s : State) : State :=
  let kept := keptSlotOut s.rsl
  let missed := s.rsl.slotLane.length - kept.length
  (s.withRsl { s.rsl with slotLane := kept }).withSls { s.sls with slotMissed := satAdd 65535 s.sls.slotMissed missed }

/-- R137 and R150: the frame timer marks the start of a slot. -/
def startSlot (slot : Nat) (s : State) : State :=
  let s := discardUnsent s
  s.withSls { s.sls with slot := slot }

/-- R137 and R143: the frame start, which is the start of slot 0; the gap drop comes before slot 0 is handled. (DESIGN CHOICE,
unsafe: log entry 26.) -/
def startFrame (s : State) : State := handleSlot (gapDrop (putInForce (startSlot 0 s)))

/-! ## Replay reset (R151) -/

/-- R151, step 1: the DRAINING streams finish, in announce order. (DEDUCED, unsafe: log entry 18.) -/
def finishAllDraining (s : State) : State :=
  ((s.rpc.streams.filter Stream.drains).map Stream.id).foldl (fun s id => finishDraining id s) s

/-- R151, steps 3 to 5: a stream after a replay reset. -/
def Stream.restarted (st : Stream) : Stream :=
  { st with cursor := emptyCursor, underruns := 0, state := if 0 < st.subscribers then .wanted else st.state }

/-- R151: a REPLAY_RESET is taken; in UNCONFIGURED it is ignored. -/
def replayReset (s : State) : State :=
  if s.hearing then
    let s := finishAllDraining s
    let s := s.withRpc { s.rpc with streams := s.rpc.streams.map Stream.restarted, cache := [] }
    s.withSls { s.sls with nextMap := none, resetPending := true }
  else s

/-! ## Commands -/

/-- FRAME_START (R143), after the last slot of the frame. (DEDUCED, safe: log entry 5.) -/
def execFrameStart (s : State) : Host.Outcome State Fault Refusal :=
  if s.sls.running ∧ s.sls.slot + 1 = s.slots then .next (startFrame s) else .next s

/-- SLOT_START (R144), of the next slot, which is neither the first nor the last. (DEDUCED, safe: log entry 5.) -/
def execSlotStart (s : State) : Host.Outcome State Fault Refusal :=
  if s.sls.running ∧ s.sls.slot + 2 < s.slots then .next (handleSlot (startSlot (s.sls.slot + 1) s)) else .next s

/-- LAST_SLOT_START (R139): slot S-1 is handled, then the next map is rebuilt. (DEDUCED, safe: log entry 5.) -/
def execLastSlotStart (s : State) : Host.Outcome State Fault Refusal :=
  if s.sls.running ∧ s.sls.slot + 2 = s.slots then .next (rebuild (handleSlot (startSlot (s.sls.slot + 1) s)))
  else .next s

/-- REPLAY_RESET (R151). -/
def execReplayReset (s : State) : Host.Outcome State Fault Refusal :=
  takeRequest 70 readNothing (fun _ => replayReset) s

end Sys2Proof.Machine
end

