-- ==== Sys2Proof/Machine/Clock.lean ====
section
/-! DEFINITION. Site Time and Match Phases (08, R155 to R163): the local advance and the two parts of a CLOCK frame. -/

namespace Sys2Proof.Machine

/-- R155: the greatest site time. -/
def siteTimeMax : Nat := 4294967295

/-- R157: a frame behind by more than this is a clock disagreement. -/
def disagreeAbove : Nat := 100

/-- R156 and R157: the time part of a CLOCK frame. -/
def takeTime (t : Nat) (s : State) : State :=
  if s.sck.time < t then s.withSck { s.sck with time := t }
  else if disagreeAbove < s.sck.time - t then raise .clockDisagree s
  else s

/-- R158: a phase is later than another. -/
def Phase.later (a b : Phase) : Bool := decide (b.code < a.code)

/-- R158 and R159: whether the phase of a frame is adopted over the phase held. -/
def phaseAdopted (frame held : Phase) : Bool := frame.later held || (held == .fullTime && frame == .preGates)

/-- R160: the auto-freeze mask of the configuration. -/
def autoFreezeMask (s : State) : BitVec 16 := (s.cfl.config.map NodeConfig.freezeMask).getD 0

/-- R158 to R160: the phase part of a CLOCK frame, with the auto-freeze at the adoption of FIRST_HALF. -/
def takePhase (f : Phase) (s : State) : State :=
  if phaseAdopted f s.sck.phase then
    let s := s.withSck { s.sck with phase := f }
    if f = .firstHalf then freezeGroups (autoFreezeMask s) s else s
  else s

/-- R156: a CLOCK frame is taken, the time part first; a phase code out of range leaves out the phase part (R202). -/
def takeClock (t : Nat) (f : Option Phase) (s : State) : State :=
  if s.hearing then
    let s := takeTime t s
    match f with
    | some f => takePhase f s
    | none => s
  else s

/-- SITE_TIME_TICK (R155): one count of the local advance. -/
def execSiteTimeTick (s : State) : Host.Outcome State Fault Refusal :=
  if s.sck.advancing then .next (s.withSck { s.sck with time := satAdd siteTimeMax s.sck.time 1 }) else .next s

end Sys2Proof.Machine
end

