-- ==== Sys2Proof/Machine/RowBus.lean ====
section
/-! DEFINITION. Row Bus Access (09, R164 to R179): a received frame's five steps and its routing, starts, collisions, backoff,
ends, carrier and the jam watch. The transmit queues stand in Ops.lean, the reports in Reports.lean. -/

namespace Sys2Proof.Machine

/-! ## Receiving -/

/-- R167: a frame that the RBC accepts goes to the block that owns its kind; a payload that does not fit is discarded
there (R201, R202). (DEDUCED, unsafe: log entry 20.) -/
def route (kind : Byte) (source dest : Nat) (p : List Byte) (s : State) : State :=
  match kind.toNat with
  | 1 => match readAdvert p with | some a => takeAdvert source a s | none => s
  | 2 => match readPull p with | some a => takePull source a.1 a.2 s | none => s
  | 3 => match readGrant p with | some g => takeGrant source g s | none => s
  | 4 => match readClient p with | some c => takeNone source c s | none => s
  | 5 => match readClient p with | some c => takeHeld source c s | none => s
  | 6 => match readOffer p with | some a => takeOffer source a.1 a.2 s | none => s
  | 7 => match readClient p with | some c => takeAccept source c s | none => s
  | 8 => match readDecline p with | some c => takeDecline source c s | none => s
  | 9 => match readClaim p with | some c => takeClaim source dest c s | none => s
  | 10 => match readVerdict p with | some v => takeVerdict source v s | none => s
  | 32 => match readClock p with | some a => takeClock a.1 a.2 s | none => s
  | 33 => match readEntitlement p with | some a => takeEntitlement a s | none => s
  | 34 => match readFreeze p with | some a => takeFreeze a.1 a.2 s | none => s
  | 35 => match readFreeze p with | some a => takeUnfreeze a.1 a.2 s | none => s
  | 36 => match readAnnounce p with | some a => takeAnnounce a s | none => s
  | 37 => match readSegment p with | some c => takeSegment c s | none => s
  | _ => s

/-- R166: an address clash; in LISTENING and JOINED it moves the node to MUTED (R200). -/
def addressClash (s : State) : State :=
  let s := raise .addressClash s
  if s.cfl.node = .listening ∨ s.cfl.node = .joined then enterMuted s else s

/-- R165, steps 1 and 2: a frame discarded as damaged or unreadable. -/
def countCrcError (s : State) : State := s.withRbc { s.rbc with crcErrors := count16 s.rbc.crcErrors }

/-- R165: a frame that the RBC takes, settled by the first step that settles it. -/
def settleFrame (kind : Byte) (f : BusFrame) (s : State) : State :=
  if !frameGood kind f then countCrcError s
  else if f.source.toNat = s.station then addressClash s
  else if f.dest.toNat = 0 ∨ f.dest.toNat = s.station then route kind f.source.toNat f.dest.toNat f.payload s
  else s

/-- R164 and R176: the run of carrier has ended. -/
def carrierEnded (s : State) : State :=
  s.withRbc { s.rbc with carrier := false, ownRun := false, idle := 0, jamReported := false }

/-- The node itself is driving the line. -/
def Rbc.sends (r : Rbc) : Bool :=
  match r.transmitter with
  | some t => t.phase == .sending
  | none => false

/-- R165: a frame reaches the node, when its carrier ends; with the receiver off, or while the node sends, it is not taken
(DESIGN CHOICE, safe: log entry 16), and a run of carrier that the node itself was driving is no received frame. -/
def receive (kind : Byte) (f : BusFrame) (s : State) : State :=
  if s.rbc.sends then s
  else if s.rbc.receiver && !s.rbc.ownRun then settleFrame kind f (carrierEnded s)
  else carrierEnded s

/-! ## Sending -/

/-- R164: the deferral gap of a class, in microseconds (R171, R173). -/
def classGap (urgent : Bool) : Nat := if urgent then 16 else 32

/-- R171: the frame that starts at an idle measure, with the queues it leaves behind. -/
def nextToSend (idle : Nat) (r : Rbc) : Option (TxFrame × Rbc) :=
  match r.urgent, r.routine with
  | f :: rest, _ => if classGap true ≤ idle then some (f, { r with urgent := rest }) else none
  | [], f :: rest => if classGap false ≤ idle then some (f, { r with routine := rest }) else none
  | [], [] => none

/-- The idle measure as it reads now; it never runs backwards while the line stays idle (R164; DESIGN CHOICE, safe: log
entry 4). -/
def measureIdle (idle : Nat) (s : State) : State := s.withRbc { s.rbc with idle := max s.rbc.idle idle }

/-- The RBC with a frame in the transmitter in SENDING, and the frame's bytes on the line (R171 to R173, R201). -/
def Rbc.sending (station : Nat) (f : TxFrame) (collisions : Nat) (r : Rbc) : Rbc :=
  { r with transmitter := some { frame := f, collisions := collisions, phase := .sending }, driven := f.wire station }

/-- R173 and R174: the end of an attempt by a collision. The run of carrier goes on, driven by the other station; it is one that
the node was driving (R165). -/
def collide (t : Transmitter) (s : State) : State :=
  let n := t.collisions + 1
  let s := s.withRbc { s.rbc with carrier := true, ownRun := true, driven := [] }
  if 8 ≤ n then
    let s := raise .txDrop
      (s.withRbc { s.rbc with transmitter := none, txDrops := count16 s.rbc.txDrops })
    reportDropped t.frame s
  else
    let t := { t with collisions := n, phase := .backoff (Config.freeDraw s.free % 2 ^ min n 5) }
    nextFree (s.withRbc { s.rbc with transmitter := some t })

/-! ## Commands: sending -/

/-- TX_START (R171). (DESIGN CHOICE, safe: log entry 1.) -/
def execTxStart (idle : Nat) (s : State) : Host.Outcome State Fault Refusal :=
  if s.cfl.node = .joined ∧ s.rbc.transmitter = none ∧ s.rbc.carrier = false then
    let s := measureIdle idle s
    match nextToSend s.rbc.idle s.rbc with
    | some (f, r) => .next (reportStart f (s.withRbc (r.sending s.station f 0)))
    | none => .next s
  else .next s

/-- BACKOFF_END (R173): the frame enters DEFERRING. -/
def execBackoffEnd (s : State) : Host.Outcome State Fault Refusal :=
  match s.rbc.transmitter with
  | none => .next s
  | some t =>
    match t.phase with
    | .backoff _ => .next (s.withRbc { s.rbc with transmitter := some { t with phase := .deferring } })
    | .sending | .deferring => .next s

/-- RETRY_ATTEMPT_START (R173): a deferring frame starts its next attempt. -/
def execRetryAttemptStart (idle : Nat) (s : State) : Host.Outcome State Fault Refusal :=
  match s.rbc.transmitter with
  | none => .next s
  | some t =>
    if t.phase = .deferring ∧ s.rbc.carrier = false then
      let s := measureIdle idle s
      if classGap t.frame.body.isUrgent ≤ s.rbc.idle then
        .next (s.withRbc (s.rbc.sending s.station t.frame t.collisions))
      else .next s
    else .next s

/-- COLLISION (R173). -/
def execCollision (s : State) : Host.Outcome State Fault Refusal :=
  match s.rbc.transmitter with
  | none => .next s
  | some t => if t.phase = .sending then .next (collide t s) else .next s

/-- FRAME_SENT (R172): the last byte has gone out with no other carrier heard. -/
def execFrameSent (s : State) : Host.Outcome State Fault Refusal :=
  match s.rbc.transmitter with
  | none => .next s
  | some t =>
    if t.phase = .sending ∧ s.rbc.carrier = false then
      .next (reportSent t.frame (s.withRbc
        { s.rbc with transmitter := none, driven := [], idle := 0, jamReported := false }))
    else .next s

/-! ## Commands: the line -/

/-- CARRIER_START (R164): another station begins to drive the line. -/
def execCarrierStart (s : State) : Host.Outcome State Fault Refusal :=
  .next (s.withRbc { s.rbc with carrier := true })

/-- CARRIER_END (R164, R165): a run of carrier ends; a fragment is discarded without counting. (DESIGN CHOICE, safe: log
entry 19.) -/
def execCarrierEnd (run : List Byte) (s : State) : Host.Outcome State Fault Refusal :=
  if isFragment run then (if s.rbc.sends then .next s else .next (carrierEnded s))
  else .next (receive (kindOfRun run) (frameOfRun run) s)

/-- JAM_WATCH_EXPIRY (R176): carrier has been present for 50 ms without a break. -/
def execJamWatchExpiry (s : State) : Host.Outcome State Fault Refusal :=
  if s.rbc.receiver ∧ s.rbc.carrier ∧ s.rbc.jamReported = false then
    .next (raise .jammed (s.withRbc { s.rbc with jamReported := true }))
  else .next s

/-! ## Commands: received frames -/

/-- LOAD_ADVERT (R17). -/
def execLoadAdvert (f : BusFrame) (s : State) : Host.Outcome State Fault Refusal := .next (receive 1 f s)

/-- CTX_PULL (R60). -/
def execCtxPull (f : BusFrame) (s : State) : Host.Outcome State Fault Refusal := .next (receive 2 f s)

/-- CTX_GRANT (R58). -/
def execCtxGrant (f : BusFrame) (s : State) : Host.Outcome State Fault Refusal := .next (receive 3 f s)

/-- CTX_NONE (R59). -/
def execCtxNone (f : BusFrame) (s : State) : Host.Outcome State Fault Refusal := .next (receive 4 f s)

/-- CTX_HELD (R59). -/
def execCtxHeld (f : BusFrame) (s : State) : Host.Outcome State Fault Refusal := .next (receive 5 f s)

/-- STEER_OFFER (R71). -/
def execSteerOffer (f : BusFrame) (s : State) : Host.Outcome State Fault Refusal := .next (receive 6 f s)

/-- STEER_ACCEPT (R67). -/
def execSteerAccept (f : BusFrame) (s : State) : Host.Outcome State Fault Refusal := .next (receive 7 f s)

/-- STEER_DECLINE (R68). -/
def execSteerDecline (f : BusFrame) (s : State) : Host.Outcome State Fault Refusal := .next (receive 8 f s)

/-- CHECKIN_CLAIM (R109). -/
def execCheckinClaim (f : BusFrame) (s : State) : Host.Outcome State Fault Refusal := .next (receive 9 f s)

/-- CHECKIN_VERDICT (R106). -/
def execCheckinVerdict (f : BusFrame) (s : State) : Host.Outcome State Fault Refusal := .next (receive 10 f s)

/-- CHECKIN_NOTE (R167): taken and not routed. -/
def execCheckinNote (f : BusFrame) (s : State) : Host.Outcome State Fault Refusal := .next (receive 11 f s)

/-- INCIDENT (R167): taken and not routed. -/
def execIncident (f : BusFrame) (s : State) : Host.Outcome State Fault Refusal := .next (receive 12 f s)

/-- RESYNC_REQUEST (R167): taken and not routed. -/
def execResyncRequest (f : BusFrame) (s : State) : Host.Outcome State Fault Refusal := .next (receive 13 f s)

/-- CLOCK (R156). -/
def execClock (f : BusFrame) (s : State) : Host.Outcome State Fault Refusal := .next (receive 32 f s)

/-- ISSUE (R85). -/
def execIssue (f : BusFrame) (s : State) : Host.Outcome State Fault Refusal := .next (receive 33 (withAction 0 f) s)

/-- REISSUE (R86). -/
def execReissue (f : BusFrame) (s : State) : Host.Outcome State Fault Refusal := .next (receive 33 (withAction 1 f) s)

/-- VOID (R87). -/
def execVoid (f : BusFrame) (s : State) : Host.Outcome State Fault Refusal := .next (receive 33 (withAction 2 f) s)

/-- CLEAR_CHECKIN (R88). -/
def execClearCheckin (f : BusFrame) (s : State) : Host.Outcome State Fault Refusal :=
  .next (receive 33 (withAction 3 f) s)

/-- RESYNC_FILL (R80). -/
def execResyncFill (f : BusFrame) (s : State) : Host.Outcome State Fault Refusal :=
  .next (receive 33 (withAction 4 f) s)

/-- INVALID_ENTITLEMENT_CODE (R202): discarded before the freeze step. -/
def execInvalidEntitlementCode (f : BusFrame) (s : State) : Host.Outcome State Fault Refusal := .next (receive 33 f s)

/-- FREEZE (R90). -/
def execFreeze (f : BusFrame) (s : State) : Host.Outcome State Fault Refusal := .next (receive 34 f s)

/-- UNFREEZE (R91). -/
def execUnfreeze (f : BusFrame) (s : State) : Host.Outcome State Fault Refusal := .next (receive 35 f s)

/-- STREAM_ANNOUNCE (R117). -/
def execStreamAnnounce (f : BusFrame) (s : State) : Host.Outcome State Fault Refusal := .next (receive 36 f s)

/-- SEGMENT (R129). -/
def execSegment (f : BusFrame) (s : State) : Host.Outcome State Fault Refusal := .next (receive 37 f s)

/-- UNKNOWN_KIND_FRAME (R165, step 5). -/
def execUnknownKindFrame (kind : Byte) (f : BusFrame) (s : State) : Host.Outcome State Fault Refusal :=
  .next (receive kind f s)

end Sys2Proof.Machine
end

