-- ==== Sys2Proof/Machine/Start.lean ====
section
/-! DEFINITION. Configuration Image and Start (11, R192 to R200) and the status reply (R191). -/

namespace Sys2Proof.Machine

/-! ## The image (12.3, R194 to R197) -/

/-- R193: the bytes of the image. -/
def imageLength : Nat := 48

/-- The fields of the image as they stand in it (12.3). -/
def readImage (b : List Byte) : NodeConfig where
  sectionId := fieldAt b 1 1
  station := fieldAt b 2 1
  firstSeat := fieldAt b 3 2
  seatCount := fieldAt b 5 2
  capacity := fieldAt b 7 1
  clientWeight := fieldAt b 8 1
  low := signed16 (fieldAt b 9 2)
  high := signed16 (fieldAt b 11 2)
  critical := signed16 (fieldAt b 13 2)
  slots := fieldAt b 15 1
  rmax := fieldAt b 16 1
  frameCode := fieldAt b 17 1
  margin := fieldAt b 18 2
  freezeMask := BitVec.ofNat 16 (fieldAt b 20 2)
  siteKey := BitVec.ofNat 16 (fieldAt b 22 2)

/-- R194: the first fault of an image that has been read whole. -/
def imageFault (b : List Byte) : Option FaultReason :=
  let c := readImage b
  if byteSum b ≠ 0 then some .badSum
  else if fieldAt b 0 1 ≠ 1 then some .badFormat
  else if c.station = 0 ∨ 31 < c.station then some .badAddress
  else if c.sectionId = 0 then some .badSection
  else if c.firstSeat = 0 ∨ 4095 < c.firstSeat ∨ c.seatCount = 0 then some .badBlock
  else none

/-- R197, step 1: one limit brought into -1600..2047. -/
def clampLimit (v : Int) : Int := max (-1600) (min 2047 v)

/-- R197: the three limits after the four steps. -/
def clampLimits (low high critical : Int) : Int × Int × Int :=
  let low := clampLimit low
  let high := max (clampLimit high) (low + 16)
  let critical := max (clampLimit critical) (high + 16)
  if 2047 < critical then (min low 2015, min high 2031, 2047) else (low, high, critical)

/-- R196 and R197: the clamped values. -/
def clampConfig (c : NodeConfig) : NodeConfig :=
  let slots := max 8 (min 32 c.slots)
  let limits := clampLimits c.low c.high c.critical
  { c with
    seatCount := min (min 192 c.seatCount) (4096 - c.firstSeat)
    capacity := max 16 (min 160 c.capacity)
    clientWeight := min 16 c.clientWeight
    slots := slots
    rmax := min slots c.rmax
    frameCode := c.frameCode % 4
    margin := min 1023 c.margin
    low := limits.1
    high := limits.2.1
    critical := limits.2.2 }

/-! ## Moves between the node states -/

/-- R195: the node enters UNCONFIGURED. -/
def enterUnconfigured (reason : FaultReason) (s : State) : State :=
  s.withCfl { s.cfl with node := .unconfigured, reason := some reason }

/-- R198: the listen timer's duration, 2.000 s. -/
def listenMs : Nat := 2000

/-- R198: the blocks' own states at the entry to LISTENING, before the first frame start. -/
def listeningState (raw : NodeConfig) (s : State) : State :=
  let c := clampConfig raw
  { s with
    cfl := { s.cfl with node := .listening, config := some c, clamped := decide (c ≠ raw), listenTimer := some listenMs }
    rbc := { s.rbc with receiver := true }
    sck := { s.sck with advancing := true }
    ens := { s.ens with seats := List.replicate c.seatCount emptySeat }
    sls := { s.sls with running := true } }

/-- R198: the entry to LISTENING: the PRM's first computation, and the first frame start (R137, R143). -/
def enterListening (raw : NodeConfig) (s : State) : State := startFrame (recompute (listeningState raw s))

/-- R199: the entry to JOINED: the RESYNC_REQUEST (R92), then the first advert and the advert timer (R11). -/
def enterJoined (c : NodeConfig) (s : State) : State :=
  let s := s.withCfl { s.cfl with node := .joined, listenTimer := none }
  let s := queueAdvert (queueFrame 0 (.resyncRequest c.firstSeat c.seatCount) s)
  s.withPrm { s.prm with advertTimer := some advertMs }

/-- R192: a full reset; the lines that others drive, the commands waiting and the count of free values stay.
(DESIGN CHOICE, unsafe: log entry 13.) -/
def fullReset (strap : Bool) (s : State) : State :=
  { State.reset with
    cfl := { State.reset.cfl with service := strap }
    rbc := { State.reset.rbc with carrier := s.rbc.carrier
                                  ownRun := s.rbc.carrier && (s.rbc.ownRun || s.rbc.sends) }
    rsl := { State.reset.rsl with basebandReady := s.rsl.basebandReady }
    free := s.free
    pending := s.pending }

/-! ## Status (R191) -/

/-- The number of records in a state (R45). -/
def recordsIn (s : State) (st : RecordState) : Nat := s.ast.records.countP fun r => r.state == st

/-- The number of records of a class (R45). -/
def recordsOf (s : State) (c : ClientClass) : Nat := s.ast.records.countP fun r => r.cls == c

/-- R191: the STATUS_REPLY, every value as it stands. -/
def statusOf (s : State) : StatusReply where
  node := s.cfl.node
  reason := s.cfl.reason
  station := s.cfl.config.map NodeConfig.station
  sectionId := s.cfl.config.map NodeConfig.sectionId
  firstSeat := s.cfl.config.map NodeConfig.firstSeat
  seatCount := s.cfl.config.map NodeConfig.seatCount
  clamped := s.cfl.clamped
  service := s.cfl.service
  pressure := s.prm.pressure
  monitor := s.prm.monitor
  pool := pool s
  restoreHold := s.prm.restoreHold
  assignedSlots := s.assigned
  clients := s.clients
  guests := s.guests
  byClass := [.guest, .claimant, .home].map (recordsOf s)
  byState := [.expected, .pulling, .active, .offering, .steered, .releasing].map (recordsIn s)
  inflight := s.hoe.inflight.length
  waiting := s.hoe.waitQueue.length
  claims := s.cku.claims.length
  freeze := s.ens.freeze
  phase := s.sck.phase
  siteTime := s.sck.time
  crcErrors := s.rbc.crcErrors
  txDrops := s.rbc.txDrops
  frozenRefusals := s.ens.frozenRefusals
  staleUpdates := s.ens.staleUpdates
  malformed := s.rpc.malformed
  gaps := s.rpc.gaps
  slotMissed := s.sls.slotMissed
  skips := s.sls.skips
  steerFailures := s.ast.steerFailures
  linkErrors := s.rsl.linkErrors

/-! ## Commands -/

/-- FULL_RESET (R192). -/
def execFullReset (strap : Bool) (s : State) : Host.Outcome State Fault Refusal := .next (fullReset strap s)

/-- IMAGE_READ_COMPLETE (R193, R194): only in LOADING, with the 48th byte arrived. (DESIGN CHOICE, safe: log entry 19.) -/
def execImageReadComplete (image : List Byte) (s : State) : Host.Outcome State Fault Refusal :=
  if s.cfl.node = .loading ∧ imageLength ≤ image.length then
    let b := image.take imageLength
    match imageFault b with
    | some reason => .next (enterUnconfigured reason s)
    | none => .next (enterListening (readImage b) s)
  else .next s

/-- IMAGE_READ_FAILED (R193). -/
def execImageReadFailed (s : State) : Host.Outcome State Fault Refusal :=
  if s.cfl.node = .loading then .next (enterUnconfigured .noImage s) else .next s

/-- LISTEN_TIMER_EXPIRY (R199). -/
def execListenTimerExpiry (s : State) : Host.Outcome State Fault Refusal :=
  match s.cfl.config with
  | none => .next s
  | some c =>
    if s.cfl.node = .listening ∧ s.cfl.listenTimer.isSome then .next (enterJoined c s) else .next s

/-- STATUS_QUERY (R191). -/
def execStatusQuery (s : State) : Host.Outcome State Fault Refusal :=
  takeRequest 72 readNothing (fun _ s => placeOnLane (.statusReply (statusOf s)) s) s

end Sys2Proof.Machine
end

