-- ==== Sys2Proof/Machine/Dispatch.lean ====
section
/-! DEFINITION. The dispatch: one arm for each command, one direct call of its meaning. -/

namespace Sys2Proof.Machine

def exec (i : Instr) (s : State) : Host.Outcome State Fault Refusal :=
  match i with
  | .fullReset strap => Sys2Proof.Machine.execFullReset strap s
  | .imageReadComplete image => Sys2Proof.Machine.execImageReadComplete image s
  | .imageReadFailed => Sys2Proof.Machine.execImageReadFailed s
  | .listenTimerExpiry => Sys2Proof.Machine.execListenTimerExpiry s
  | .siteTimeTick => Sys2Proof.Machine.execSiteTimeTick s
  | .frameStart => Sys2Proof.Machine.execFrameStart s
  | .slotStart => Sys2Proof.Machine.execSlotStart s
  | .lastSlotStart => Sys2Proof.Machine.execLastSlotStart s
  | .advertTimerExpiry => Sys2Proof.Machine.execAdvertTimerExpiry s
  | .holdOffTimerExpiry => Sys2Proof.Machine.execHoldOffTimerExpiry s
  | .ageTimerExpiry station => Sys2Proof.Machine.execAgeTimerExpiry station s
  | .declineHoldExpiry station => Sys2Proof.Machine.execDeclineHoldExpiry station s
  | .idleTimerExpiry client => Sys2Proof.Machine.execIdleTimerExpiry client s
  | .claimantTimerExpiry client => Sys2Proof.Machine.execClaimantTimerExpiry client s
  | .expectationHoldExpiry client => Sys2Proof.Machine.execExpectationHoldExpiry client s
  | .steerHoldExpiry client => Sys2Proof.Machine.execSteerHoldExpiry client s
  | .pullResponseTimeout client => Sys2Proof.Machine.execPullResponseTimeout client s
  | .offerResponseTimeout client => Sys2Proof.Machine.execOfferResponseTimeout client s
  | .claimTimerExpiry client => Sys2Proof.Machine.execClaimTimerExpiry client s
  | .jamWatchExpiry => Sys2Proof.Machine.execJamWatchExpiry s
  | .txStart idle => Sys2Proof.Machine.execTxStart idle s
  | .backoffEnd => Sys2Proof.Machine.execBackoffEnd s
  | .retryAttemptStart idle => Sys2Proof.Machine.execRetryAttemptStart idle s
  | .collision => Sys2Proof.Machine.execCollision s
  | .frameSent => Sys2Proof.Machine.execFrameSent s
  | .loadAdvert f => Sys2Proof.Machine.execLoadAdvert f s
  | .ctxPull f => Sys2Proof.Machine.execCtxPull f s
  | .ctxGrant f => Sys2Proof.Machine.execCtxGrant f s
  | .ctxNone f => Sys2Proof.Machine.execCtxNone f s
  | .ctxHeld f => Sys2Proof.Machine.execCtxHeld f s
  | .steerOffer f => Sys2Proof.Machine.execSteerOffer f s
  | .steerAccept f => Sys2Proof.Machine.execSteerAccept f s
  | .steerDecline f => Sys2Proof.Machine.execSteerDecline f s
  | .checkinClaim f => Sys2Proof.Machine.execCheckinClaim f s
  | .checkinVerdict f => Sys2Proof.Machine.execCheckinVerdict f s
  | .checkinNote f => Sys2Proof.Machine.execCheckinNote f s
  | .incident f => Sys2Proof.Machine.execIncident f s
  | .resyncRequest f => Sys2Proof.Machine.execResyncRequest f s
  | .issue f => Sys2Proof.Machine.execIssue f s
  | .reissue f => Sys2Proof.Machine.execReissue f s
  | .void f => Sys2Proof.Machine.execVoid f s
  | .clearCheckin f => Sys2Proof.Machine.execClearCheckin f s
  | .resyncFill f => Sys2Proof.Machine.execResyncFill f s
  | .invalidEntitlementCode f => Sys2Proof.Machine.execInvalidEntitlementCode f s
  | .freeze f => Sys2Proof.Machine.execFreeze f s
  | .unfreeze f => Sys2Proof.Machine.execUnfreeze f s
  | .clock f => Sys2Proof.Machine.execClock f s
  | .streamAnnounce f => Sys2Proof.Machine.execStreamAnnounce f s
  | .segment f => Sys2Proof.Machine.execSegment f s
  | .unknownKindFrame kind f => Sys2Proof.Machine.execUnknownKindFrame kind f s
  | .linkRecordArrival kind body check => Sys2Proof.Machine.execLinkRecordArrival kind body check s
  | .associate => Sys2Proof.Machine.execAssociate s
  | .heard => Sys2Proof.Machine.execHeard s
  | .depart => Sys2Proof.Machine.execDepart s
  | .presentTicket => Sys2Proof.Machine.execPresentTicket s
  | .subscribe => Sys2Proof.Machine.execSubscribe s
  | .unsubscribe => Sys2Proof.Machine.execUnsubscribe s
  | .replayReset => Sys2Proof.Machine.execReplayReset s
  | .enable => Sys2Proof.Machine.execEnable s
  | .disable => Sys2Proof.Machine.execDisable s
  | .ack => Sys2Proof.Machine.execAck s
  | .globalOn => Sys2Proof.Machine.execGlobalOn s
  | .globalOff => Sys2Proof.Machine.execGlobalOff s
  | .clearAll => Sys2Proof.Machine.execClearAll s
  | .noticeControlBadOperation => Sys2Proof.Machine.execNoticeControlBadOperation s
  | .statusQuery => Sys2Proof.Machine.execStatusQuery s
  | .unknownKindRecord => Sys2Proof.Machine.execUnknownKindRecord s
  | .recordTaken => Sys2Proof.Machine.execRecordTaken s
  | .basebandReady ready => Sys2Proof.Machine.execBasebandReady ready s
  | .hoeBacklogMove => Sys2Proof.Machine.execHoeBacklogMove s
  | .ckuBacklogMove => Sys2Proof.Machine.execCkuBacklogMove s
  | .astBacklogMove => Sys2Proof.Machine.execAstBacklogMove s
  | .streamEnded => Sys2Proof.Machine.execStreamEnded s
  | .noticeDelivery => Sys2Proof.Machine.execNoticeDelivery s
  | .waitQueueHead => Sys2Proof.Machine.execWaitQueueHead s
  | .carrierStart => Sys2Proof.Machine.execCarrierStart s
  | .carrierEnd run => Sys2Proof.Machine.execCarrierEnd run s

end Sys2Proof.Machine
end

