-- ==== Sys2Proof/Safety.lean ====
section
/-! DEFINITION. What counts as a sound state of the node, and when a request or a frame is taken: the terms in which the statements
speak. -/

namespace Sys2Proof.Machine

/-! ## When a command takes effect -/

/-- R184: the first five sources of the message lane have nothing waiting, and `places` places are free. -/
abbrev LaneFree (places : Nat) (s : State) : Prop :=
  s.rsl.lane.length + places ≤ 64 ∧ s.hoe.backlog = [] ∧ s.cku.backlog = [] ∧ s.rsl.astBacklog = [] ∧
    s.rpc.endReports = [] ∧
    (s.ntu.globalEnable = false ∨
      s.ntu.groups = { cell := false, ticket := false, replay := false, links := false })

/-- R181, R184: a record of a kind is at the head of the inbound queue, and its turn has come. -/
abbrev RequestNext (kind : Nat) (body : List Byte) (rest : List LinkRecord) (s : State) : Prop :=
  s.rsl.inbound = { kind := BitVec.ofNat 8 kind, body := body } :: rest ∧ s.cfl.node ≠ .loading ∧ LaneFree 2 s ∧
    (s.hoe.waitQueue = [] ∨ 8 ≤ s.hoe.inflight.length)

/-- The state once the head of the inbound queue has been removed. -/
def requestGone (rest : List LinkRecord) (s : State) : State := s.withRsl { s.rsl with inbound := rest }

/-- Every command that is a received frame, with the frame's kind byte and the frame as the RBC takes it (12.1, R78): the five
ENTITLEMENT commands carry the action byte of their row. `kind` is the kind byte of the one of unknown kind. -/
def frameCommands (kind : Byte) (f : BusFrame) : List (Instr × Byte × BusFrame) :=
  [(.loadAdvert f, 1#8, f), (.ctxPull f, 2#8, f), (.ctxGrant f, 3#8, f), (.ctxNone f, 4#8, f), (.ctxHeld f, 5#8, f),
   (.steerOffer f, 6#8, f), (.steerAccept f, 7#8, f), (.steerDecline f, 8#8, f), (.checkinClaim f, 9#8, f),
   (.checkinVerdict f, 10#8, f), (.checkinNote f, 11#8, f), (.incident f, 12#8, f), (.resyncRequest f, 13#8, f)] ++
  [(.clock f, 32#8, f), (.issue f, 33#8, withAction 0 f), (.reissue f, 33#8, withAction 1 f),
   (.void f, 33#8, withAction 2 f), (.clearCheckin f, 33#8, withAction 3 f), (.resyncFill f, 33#8, withAction 4 f),
   (.invalidEntitlementCode f, 33#8, f), (.freeze f, 34#8, f), (.unfreeze f, 35#8, f), (.streamAnnounce f, 36#8, f),
   (.segment f, 37#8, f), (.unknownKindFrame kind f, kind, f)]

/-- R165: a frame of a kind from another station passes the five steps; the node is not sending and was not driving its run of
carrier. That a handoff frame or a verdict may be sent to all stations is DEDUCED (unsafe: log entry 20). -/
abbrev FrameTaken (kind source : Nat) (f : BusFrame) (s : State) : Prop :=
  s.rbc.receiver = true ∧ s.rbc.sends = false ∧ s.rbc.ownRun = false ∧ frameGood (BitVec.ofNat 8 kind) f = true ∧
    f.source.toNat = source ∧ source ≠ s.station ∧ (f.dest.toNat = 0 ∨ f.dest.toNat = s.station)

/-- R79, step 1: an ENTITLEMENT frame finds the entry of its seat. -/
abbrev EntryFound (c : NodeConfig) (index : Nat) (e : SeatEntry) (a : Entitlement) (s : State) : Prop :=
  s.hearing = true ∧ s.cfl.config = some c ∧ seatIndex a.seat s = some index ∧ s.ens.seats[index]? = some e

/-- R79, steps 3 and 4: the entry's group is not frozen and the frame's revision is newer. -/
abbrev UpdateOpen (c : NodeConfig) (index : Nat) (e : SeatEntry) (a : Entitlement) (s : State) : Prop :=
  s.ens.freeze.getLsbD (index / ((c.seatCount + 15) / 16)) = false ∧ e.revision < a.revision

/-- R79, steps 1 and 2: an ENTITLEMENT frame whose action byte is `code` is taken and finds its seat's entry. The action byte is
the one of the command's row (DESIGN CHOICE, safe: log entry 16). -/
abbrev UpdateNext (code : Byte) (source : Nat) (f : BusFrame) (c : NodeConfig) (index : Nat) (e : SeatEntry)
    (a : Entitlement) (s : State) : Prop :=
  FrameTaken 33 source (withAction code f) s ∧ readEntitlement (withAction code f).payload = some a ∧
    EntryFound c index e a s ∧ (s.ast.records.map Record.client).Nodup

/-- R77, R78: the freeze group of an index is frozen. -/
abbrev GroupFrozen (c : NodeConfig) (index : Nat) (s : State) : Prop :=
  s.ens.freeze.getLsbD (index / ((c.seatCount + 15) / 16)) = true

/-- R83: the one other entry of the block that holds the ticket number. -/
abbrev TicketAt (j index number : Nat) (e : SeatEntry) (s : State) : Prop :=
  j ≠ index ∧ s.ens.seats[j]? = some e ∧ e.standing.ticketNumber = some number ∧
    ∀ i, i < s.ens.seats.length → i ≠ index → i ≠ j →
      ((s.ens.seats[i]?).bind fun x => x.standing.ticketNumber) ≠ some number

/-- R83: no other entry of the block holds the ticket number. -/
abbrev TicketFree (index number : Nat) (s : State) : Prop :=
  ∀ i, i < s.ens.seats.length → i ≠ index →
    ((s.ens.seats[i]?).bind fun e => e.standing.ticketNumber) ≠ some number

/-- R95, R96: a PRESENT_TICKET about an ACTIVE record is next, in a configured node. -/
abbrev PresentationNext (c : NodeConfig) (r : Record) (p : Presentation) (body : List Byte) (rest : List LinkRecord)
    (s : State) : Prop :=
  RequestNext 67 body rest s ∧ readPresent body = some p ∧ s.cfl.config = some c ∧
    findRecord p.client s = some r ∧ r.state = .active ∧ (s.ast.records.map Record.client).Nodup

/-- R97: the check code of a presentation is the one that the node computes. -/
abbrev CodeRight (c : NodeConfig) (p : Presentation) : Prop :=
  crc16 c.siteKey (beBytes 4 p.ticket ++ beBytes 2 p.seat ++ beBytes 1 p.sectionId ++ beBytes 1 p.tier ++
    beBytes 2 p.serial) = p.code

/-- R96, steps 1 to 4: the first four checks of a presentation pass. -/
abbrev ChecksPassed (c : NodeConfig) (r : Record) (p : Presentation) (s : State) : Prop :=
  findClaim p.client s = none ∧ r.badCodes ≠ 4 ∧ p.sectionId = c.sectionId ∧ CodeRight c p

/-- A frame to be sent whose fields fit their widths in 12.1: client ids have 48 bits, seats and revisions 16, tickets and
times 32, stream ids 8; a grant names at most 4 streams, and a DUPLICATE carries a count of 1 to 15. -/
def FrameFits : OutFrame → Prop
  | .loadAdvert first count p _ total _ =>
    first < 65536 ∧ count < 65536 ∧ -32768 ≤ p ∧ p ≤ 32767 ∧ total < 256
  | .ctxPull client since attempt => client < 2 ^ 48 ∧ since < 2 ^ 32 ∧ attempt < 256
  | .ctxGrant client since b streams =>
    client < 2 ^ 48 ∧ since < 2 ^ 32 ∧ (∀ x, b = some x → x.ticket < 2 ^ 32 ∧ x.seat < 65536) ∧
      streams.length ≤ 4 ∧ ∀ id ∈ streams, id < 256
  | .ctxNone client | .ctxHeld client | .steerAccept client | .steerDecline client _ => client < 2 ^ 48
  | .steerOffer client seat subs => client < 2 ^ 48 ∧ (∀ q, seat = some q → q < 65536) ∧ subs < 256
  | .checkinClaim client ticket seat serial tier =>
    client < 2 ^ 48 ∧ ticket < 2 ^ 32 ∧ seat < 65536 ∧ serial < 65536 ∧ tier < 256
  | .checkinVerdict client ticket seat result n =>
    client < 2 ^ 48 ∧ ticket < 2 ^ 32 ∧ seat < 65536 ∧ n < 256 ∧ (result = .duplicate → 1 ≤ n ∧ n ≤ 15)
  | .checkinNote seat ticket client time => seat < 65536 ∧ ticket < 2 ^ 32 ∧ client < 2 ^ 48 ∧ time < 2 ^ 32
  | .incident seat ticket holder presenter =>
    seat < 65536 ∧ ticket < 2 ^ 32 ∧ holder < 2 ^ 48 ∧ presenter < 2 ^ 48
  | .resyncRequest first count => first < 65536 ∧ count < 65536

/-! ## Effects that several rules share, each written out whole -/

/-- R10: the advert with the values current now, under the tag it gets when the RBC accepts it. -/
def advertNow (c : NodeConfig) (s : State) : TxFrame :=
  { tag := s.rbc.nextTag, dest := 0,
    body := .loadAdvert c.firstSeat c.seatCount s.prm.pressure s.prm.monitor s.ast.records.length
      (s.prm.monitor == .critical || decide (0 < s.prm.restoreHold)) }

/-- R168 and R169: the ROUTINE queue with the advert in it, or none where the advert is refused. -/
def routineWithAdvert (c : NodeConfig) (s : State) : Option (List TxFrame) :=
  if s.rbc.routine.any fun g => g.body.isAdvert then
    some (s.rbc.routine.map fun g => if g.body.isAdvert then advertNow c s else g)
  else if s.rbc.routine.length < 8 then some (s.rbc.routine ++ [advertNow c s])
  else none

/-- R10 and R14: a JOINED node has queued an advert. -/
def advertQueued (c : NodeConfig) (s : State) : State :=
  match routineWithAdvert c s with
  | some q =>
    (s.withRbc { s.rbc with routine := q, nextTag := s.rbc.nextTag + 1 }).withPrm
      { s.prm with lastAdvert := some { pressure := s.prm.pressure, monitor := s.prm.monitor },
                   holdOff := some 250, heldTrigger := false }
  | none =>
    (s.withRbc { s.rbc with txDrops := min 65535 (s.rbc.txDrops + 1) }).withPrm
      { s.prm with holdOff := some 250, heldTrigger := true }

/-- The state with one client's record changed; the others keep their places (R22). -/
def recordBecomes (client : Nat) (r : Record) (s : State) : State :=
  s.withAst { s.ast with records := s.ast.records.map fun x => if x.client = client then r else x }

/-- R49: the client's in-flight entry is gone, and its frame is withdrawn if it was still queued. -/
def inflightGone (client : Nat) (s : State) : State :=
  let tags := (s.hoe.inflight.find? fun e => e.client == client).toList.filterMap fun e =>
    if e.frame = .queued then some e.tag else none
  (s.withHoe { s.hoe with inflight := s.hoe.inflight.filter fun e => e.client ≠ client }).withRbc
    { s.rbc with urgent := s.rbc.urgent.filter fun f => f.tag ∉ tags
                 routine := s.rbc.routine.filter fun f => f.tag ∉ tags }

/-- R105, R108: the client's pending claim is gone, and its frame is withdrawn if it was still queued. -/
def claimGone (client : Nat) (s : State) : State :=
  let tags := (s.cku.claims.find? fun e => e.client == client).toList.filterMap fun e =>
    if e.frame = .queued then some e.tag else none
  (s.withCku { s.cku with claims := s.cku.claims.filter fun e => e.client ≠ client }).withRbc
    { s.rbc with urgent := s.rbc.urgent.filter fun f => f.tag ∉ tags
                 routine := s.rbc.routine.filter fun f => f.tag ∉ tags }

/-- R37, steps 1 to 4: a client's record is gone, with its subscriptions, its in-flight entry and its pending claim. Step 5
is the recompute that follows. -/
def recordGone (r : Record) (s : State) : State :=
  let s := (s.withAst { s.ast with records := s.ast.records.filter fun x => x.client ≠ r.client }).withRpc
    { s.rpc with streams := s.rpc.streams.map fun st => if st.id ∈ r.subs then st.lost else st }
  claimGone r.client (if r.state = .pulling ∨ r.state = .offering then inflightGone r.client s else s)

/-- R40: what becomes of the HOME record that is bound to the seat whose check-in ends. -/
def demotedRecord (r : Record) : Record :=
  { r with binding := none, cls := .claimant,
           timer := if r.state = .active ∨ r.state = .pulling then some .claimant else r.timer }

/-- R168: a frame of the URGENT class has been accepted; fewer than 8 waited. -/
def urgentSent (dest : Nat) (body : OutFrame) (s : State) : State :=
  s.withRbc { s.rbc with urgent := s.rbc.urgent ++ [{ tag := s.rbc.nextTag, dest := dest, body := body }]
                         nextTag := s.rbc.nextTag + 1 }

/-- R168: a frame of the ROUTINE class that is no advert has been accepted; fewer than 8 waited. -/
def routineSent (dest : Nat) (body : OutFrame) (s : State) : State :=
  s.withRbc { s.rbc with routine := s.rbc.routine ++ [{ tag := s.rbc.nextTag, dest := dest, body := body }]
                         nextTag := s.rbc.nextTag + 1 }

/-- R168: a frame of the URGENT class is offered to the RBC: refused uncounted outside JOINED, accepted while fewer than 8 wait,
and else refused and counted. -/
def urgentOffered (dest : Nat) (body : OutFrame) (s : State) : State :=
  if s.cfl.node ≠ .joined then s
  else if s.rbc.urgent.length < 8 then urgentSent dest body s
  else s.withRbc { s.rbc with txDrops := min 65535 (s.rbc.txDrops + 1) }

/-- R168: a frame of the ROUTINE class that is no advert is offered to the RBC. -/
def routineOffered (dest : Nat) (body : OutFrame) (s : State) : State :=
  if s.cfl.node ≠ .joined then s
  else if s.rbc.routine.length < 8 then routineSent dest body s
  else s.withRbc { s.rbc with txDrops := min 65535 (s.rbc.txDrops + 1) }

/-- R54: a reply of a kind of protocol from a station about a client matches the in-flight entry. -/
abbrev EntryMatches (kind : InflightKind) (source client : Nat) (e : Inflight) (s : State) : Prop :=
  findInflight client s = some e ∧ e.kind = kind ∧ e.peer = source

/-- R54, R55: no entry matches, or the node is in a state that takes no replies. -/
abbrev ReplyIgnored (kind : InflightKind) (source client : Nat) (s : State) : Prop :=
  (s.cfl.node ≠ .joined ∧ s.cfl.node ≠ .muted) ∨ ∀ e, ¬ EntryMatches kind source client e s

/-- R41: a record whose client has got any result but a local ADMITTED: a CLAIMANT becomes GUEST where a guest place is free,
and else it is removed with CELL_FULL; any other record stays. -/
def fellBack (r : Record) (s : State) : State :=
  if r.cls ≠ .claimant then s
  else if s.guests < s.capacity then
    recompute (recordBecomes r.client
      { r with cls := .guest, timer := if r.timer = some .claimant then none else r.timer } s)
  else ckuPlace (.dropClient r.client .cellFull) (recompute (recordGone r s))

/-- R40, R84: the check-in of a client on a seat has ended: its HOME record bound to the seat is demoted. -/
def checkinEnded (client seat : Nat) (s : State) : State :=
  match findRecord client s with
  | some r =>
    if r.cls = .home ∧ r.binding.map Binding.seat = some seat then recompute (recordBecomes client (demotedRecord r) s)
    else s
  | none => s

/-- R84, R40: the entry at an index of the block becomes another, and a check-in that this ends demotes its client. -/
def seatBecomes (c : NodeConfig) (index : Nat) (old new : SeatEntry) (s : State) : State :=
  let s := s.withEns { s.ens with seats := s.ens.seats.set index new }
  match old.standing with
  | .checkedIn _ client _ => checkinEnded client (c.firstSeat + index) s
  | .empty | .issued _ | .void _ => s

/-- R164: the idle measure that a TX_START or a retry reads. -/
abbrev idleNow (idle : Nat) (s : State) : Nat := max s.rbc.idle idle

/-- R48, R105: the entries that follow the frame with this tag learn how far it has come. -/
def frameMarked (tag : Nat) (st : FrameStatus) (s : State) : State :=
  (s.withHoe { s.hoe with inflight := s.hoe.inflight.map fun e => if e.tag = tag then { e with frame := st } else e }).withCku
    { s.cku with claims := s.cku.claims.map fun e => if e.tag = tag then { e with frame := st } else e }

/-- R175: a frame whose end is of no interest to its originator: no pull, grant, offer or claim. -/
def plainFrame : OutFrame → Bool
  | .ctxPull .. | .ctxGrant .. | .steerOffer .. | .checkinClaim .. => false
  | .loadAdvert .. | .ctxNone .. | .ctxHeld .. | .steerAccept .. | .steerDecline .. | .checkinVerdict .. | .checkinNote ..
  | .incident .. | .resyncRequest .. => true

/-! ## A pull that is not begun, and a new client -/

/-- R57: a pull has failed: the client's record is ACTIVE with a fresh context, its entry is gone, and the client is told. -/
def pullFailed (client : Nat) (r : Record) (s : State) : State :=
  hoePlace (.assocResult client .acceptedFresh (some r.cls) none [])
    (raise .contextLost (recordBecomes client { r with state := .active, peer := none, idle := some 120000 }
      (inflightGone client s)))

/-- R56, R48: the first CTX_PULL of a record that has entered PULLING is on the URGENT queue, and its entry is in the list. -/
def pullBegun (client since peer : Nat) (s : State) : State :=
  urgentSent peer (.ctxPull client since 1) (s.withHoe { s.hoe with inflight := s.hoe.inflight ++
    [{ client := client, kind := .pull, peer := peer, attempt := 1, frame := .queued, tag := s.rbc.nextTag,
       timer := some 400 }] })

/-- R48, R57, R168: the RBC has refused both CTX_PULL frames of a pull, with URGENT full: each is counted, and the pull fails. -/
def pullRefused (client : Nat) (r : Record) (s : State) : State :=
  pullFailed client r (s.withRbc { s.rbc with txDrops := min 65535 (s.rbc.txDrops + 2) })

/-- R51: the HOE takes a pull; the head of the wait queue does not wait behind the queue. -/
abbrev PullTaken (fromQueue : Bool) (s : State) : Prop :=
  s.hoe.inflight.length < 8 ∧ (s.hoe.waitQueue = [] ∨ fromQueue = true) ∧ s.hoe.backlog = []

/-- R51: a pull that is not taken: the request replaces the client's waiting one in its place, or waits at the tail of the queue, or,
with the queue full, is answered REFUSED_BUSY. -/
def PullWaits (q : AssocRequest) (u : State) (ends : State → Prop) : Prop :=
  (∀ pre w post, u.hoe.waitQueue = pre ++ w :: post → w.client = q.client → (∀ x ∈ pre ++ post, x.client ≠ q.client) →
    ends (u.withHoe { u.hoe with waitQueue := pre ++ q :: post })) ∧
  ((∀ w ∈ u.hoe.waitQueue, w.client ≠ q.client) →
    (u.hoe.waitQueue.length < 16 → ends (u.withHoe { u.hoe with waitQueue := u.hoe.waitQueue ++ [q] })) ∧
    (16 ≤ u.hoe.waitQueue.length → ends (astPlace (.assocResult q.client .refusedBusy none none []) u)))

/-- R30, R31, R51, R56: the admission of a client that has no record, by a JOINED node: refused with the suggestion of the neighbour
table; ACTIVE with its answer; or PULLING, with its pull begun, waiting or refused. A declared seat that holds a ticket makes a
CLAIMANT, and else the record is a GUEST's. -/
def NewAdmitted (fromQueue : Bool) (q : AssocRequest) (u : State) (ends : State → Prop) : Prop :=
  let heard := normaliseHeard u.station q.heard
  let ticketed : Prop := ∃ seat, q.declaredSeat = some seat ∧ seatTicketed seat u = true
  let full : Prop := 160 ≤ u.ast.records.length ∨ (¬ ticketed ∧ u.capacity ≤ u.guests)
  let own : Prop := q.prevSection = none ∨ q.prevSection = u.ownSection
  (full → ends (astPlace (.assocResult q.client .refusedFull none (leastPressure heard false none u) []) u)) ∧
  ∀ cls, ¬ full → (ticketed → cls = .claimant) → (¬ ticketed → cls = .guest) →
    let active : Record :=
      { client := q.client, state := .active, cls := cls, since := u.sck.time, heard := heard, binding := none, subs := [],
        badCodes := 0, peer := none, timer := if cls = .claimant then some .claimant else none, idle := some 120000,
        held := none, granted := [] }
    let added (r : Record) : State := recompute (u.withAst { u.ast with records := u.ast.records ++ [r] })
    let accepted (code : AssocCode) : State := astPlace (.assocResult q.client code (some cls) none []) (added active)
    (¬ own → ends (accepted .freshForeign)) ∧
    (own → (q.prevStation = none ∨ q.prevStation = some u.station) → ends (accepted .accepted)) ∧
    ∀ a, own → q.prevStation = some a → a ≠ u.station →
      (u.sck.phase = .unknown → ends (accepted .freshNoClock)) ∧
      (u.sck.phase ≠ .unknown →
        let pulling : Record := { active with state := .pulling, peer := some a, idle := none }
        (PullTaken fromQueue u → u.rbc.urgent.length < 8 → ends (pullBegun q.client u.sck.time a (added pulling))) ∧
        (PullTaken fromQueue u → 8 ≤ u.rbc.urgent.length → (∀ e ∈ u.hoe.inflight, e.client ≠ q.client) →
          ends (pullRefused q.client pulling (added pulling))) ∧
        (¬ PullTaken fromQueue u → PullWaits q u ends))

/-- R28, R29, R51, R52: an ASSOCIATE of a client that has the record `r` is admitted by a JOINED node, or by a MUTED one that holds
the record in ACTIVE, OFFERING or STEERED: a record held is refreshed and answered ACCEPTED, a PULLING one leaves the request
unanswered, an EXPECTED one enters its pull, and a RELEASING one is taken back where its grant is still queued and holds the request
else. -/
def KnownAdmitted (fromQueue : Bool) (q : AssocRequest) (r : Record) (u : State) (ends : State → Prop) : Prop :=
  let heard := normaliseHeard u.station q.heard
  let answer (code : AssocCode) (x : State) : State := astPlace (.assocResult q.client code (some r.cls) none []) x
  let fresh : Option RecordTimer := if r.cls = .claimant then some .claimant else none
  let active : Record := { r with state := .active, peer := none, timer := fresh, heard := heard, idle := some 120000 }
  (r.state = .active ∨ r.state = .offering →
    ends (answer .accepted (recordBecomes q.client { r with heard := heard, idle := some 120000 } u))) ∧
  (r.state = .steered →
    ends (answer .accepted (recordBecomes q.client { active with timer := none }
      (u.withAst { u.ast with steerFailures := min 65535 (u.ast.steerFailures + 1) })))) ∧
  (r.state = .pulling → ends u) ∧
  (r.state = .expected → u.sck.phase = .unknown → ends (answer .freshNoClock (recordBecomes q.client active u))) ∧
  (∀ a, r.state = .expected → u.sck.phase ≠ .unknown → r.peer = some a →
    let pulling : Record := { r with state := .pulling, timer := fresh, heard := heard }
    let x := recordBecomes q.client pulling u
    (PullTaken fromQueue u → u.rbc.urgent.length < 8 → ends (pullBegun q.client r.since a x)) ∧
    (PullTaken fromQueue u → 8 ≤ u.rbc.urgent.length → (∀ e ∈ u.hoe.inflight, e.client ≠ q.client) →
      ends (pullRefused q.client pulling x)) ∧
    (¬ PullTaken fromQueue u → PullWaits q (recordBecomes q.client { r with heard := heard } u) ends)) ∧
  (r.state = .releasing →
    (∀ (pre post : List TxFrame) (g : TxFrame) (since : Nat) (b : Option Binding) (l : List Nat),
      u.rbc.urgent = pre ++ g :: post → g.body = .ctxGrant q.client since b l →
      (∀ f ∈ pre, ∀ since b l, f.body ≠ .ctxGrant q.client since b l) →
      (∀ f ∈ pre ++ post ++ u.rbc.routine, f.tag ≠ g.tag) →
      ends (answer .accepted ((recordBecomes q.client active u).withRbc { u.rbc with urgent := pre ++ post }))) ∧
    ((∀ f ∈ u.rbc.urgent, ∀ since b l, f.body ≠ .ctxGrant q.client since b l) →
      ends (recordBecomes q.client { r with held := some q } u)))

/-! ## The ends of a grant and of a dropped frame -/

/-- R29, R63: a grant has ended at the holder, and the state `x` is the one in which the RELEASING record `r` is gone: a held
association is admitted again as one of a new client, with the grant's recipient as previous station and the own section as
previous section. A MUTED node refuses it (R27). -/
def GrantEnds (r : Record) (x : State) (ends : State → Prop) : Prop :=
  (r.held = none → ends x) ∧
  ∀ q, r.held = some q → q.client = r.client →
    (x.cfl.node = .muted → ends (astPlace (.assocResult q.client .refusedMuted none none []) x)) ∧
    (x.cfl.node = .joined → NewAdmitted false { q with prevStation := r.peer, prevSection := x.ownSection } x ends)

/-- R175: what the drop of a frame does at its originator, from a state in which the RBC holds it no more: nothing, or the end of a
grant (R63, R29), of a pull's attempt (R57, R48, R55), of an offer (R69) or of a claim (R105). A frame whose record or entry has
gone meanwhile is dropped with no effect. -/
def DropEnds (g : TxFrame) (w : State) (ends : State → Prop) : Prop :=
  (plainFrame g.body = true → ends w) ∧
  (∀ client since b l, g.body = .ctxGrant client since b l →
    (findRecord client w = none → ends w) ∧
    ∀ r, findRecord client w = some r → r.state = .releasing →
      GrantEnds r (raise .contextLost (recompute (recordGone r w))) ends) ∧
  (∀ client, (∃ seat n, g.body = .steerOffer client seat n) ∨ (∃ since n, g.body = .ctxPull client since n) →
    ((∀ e ∈ w.hoe.inflight, e.tag ≠ g.tag) → ends w) ∧
    ∀ e, w.hoe.inflight.find? (fun e => e.tag == g.tag) = some e → ∀ r, findRecord e.client w = some r →
      let entry (x : Inflight) : State := w.withHoe { w.hoe with
        inflight := w.hoe.inflight.map fun y => if y.client = e.client then x else y }
      let ended := entry { e with frame := .ended, timer := none }
      (∀ seat n, g.body = .steerOffer client seat n →
        ends (recordBecomes e.client { r with state := .active, peer := none } (inflightGone e.client ended))) ∧
      (∀ since n, g.body = .ctxPull client since n →
        (e.attempt = 1 → w.cfl.node = .joined → w.rbc.urgent.length < 8 →
          ends (urgentSent e.peer (.ctxPull e.client r.since 2)
            (entry { e with attempt := 2, frame := .queued, tag := w.rbc.nextTag, timer := some 400 }))) ∧
        (e.attempt = 1 → w.cfl.node = .joined → 8 ≤ w.rbc.urgent.length →
          ends (pullFailed e.client r
            (ended.withRbc { w.rbc with txDrops := min 65535 (w.rbc.txDrops + 1) }))) ∧
        (e.attempt ≠ 1 ∨ w.cfl.node ≠ .joined → ends (pullFailed e.client r ended)))) ∧
  (∀ client ticket seat serial tier, g.body = .checkinClaim client ticket seat serial tier →
    ((∀ k ∈ w.cku.claims, k.tag ≠ g.tag) → ends w) ∧
    ∀ k, w.cku.claims.find? (fun k => k.tag == g.tag) = some k →
      let gone := w.withCku { w.cku with claims := w.cku.claims.filter fun y => y.client ≠ k.client }
      (findRecord k.client w = none → ends gone) ∧
      ∀ r, findRecord k.client w = some r →
        (r.state = .active ∨ r.state = .offering ∨ r.state = .steered →
          ends (fellBack r (ckuPlace (.checkinResult k.client k.ticket k.seat .ownerSilent k.owner 0) gone))) ∧
        (r.state = .pulling ∨ r.state = .expected ∨ r.state = .releasing → ends gone))

/-- R47, R103: the premises under which a frame's tag names its one entry or claim. -/
abbrev EntriesApart (s : State) : Prop :=
  (s.hoe.inflight.map Inflight.client).Nodup ∧ (s.cku.claims.map Claim.client).Nodup ∧ (s.cku.claims.map Claim.tag).Nodup

/-! ## The handling of a slot -/

/-- R116, R127: one stream entry for an id, and one segment record for a stream and a 16-bit sequence. -/
abbrev StreamKeys (s : State) : Prop :=
  (s.rpc.streams.map Stream.id).Nodup ∧ (s.rpc.cache.map fun r => (r.stream, r.sequence)).Nodup ∧
    ∀ r ∈ s.rpc.cache, r.sequence < 65536

/-- R122, first part: a stream is removed: from the table, from every subscription list, with its segment records, and its place
holds an end report. -/
def streamGone (id : Nat) (s : State) : State :=
  (s.withAst { s.ast with records := s.ast.records.map fun r => { r with subs := r.subs.filter fun x => x ≠ id } }).withRpc
    { s.rpc with streams := s.rpc.streams.filter fun x => x.id ≠ id
                 cache := s.rpc.cache.filter fun g => g.stream ≠ id
                 endReports := s.rpc.endReports ++ [id] }

/-- R147: a SLOT_OUT record goes out for the stream of a place, whose entry becomes `x`, over the cache `l`. -/
def slotFilled (p : Place) (out : SlotOut) (x : Stream) (l : List SegmentRecord) (u : State) : State :=
  (placeOnSlotLane out u).withRpc
    { u.rpc with streams := u.rpc.streams.map fun y => if y.id = p.stream then x else y
                 cache := l }

/-- R149: the SLOT_OUT record of a chunk, as CHUNK or as REPEAT. -/
def slotOutOf (k : SlotKind) (n : Nat) (p : Place) (c : EmittedChunk) : SlotOut where
  slot := n
  stream := p.stream
  kind := k
  sequence := some c.sequence
  index := some c.index
  alignment := p.alignment
  pad := 1024 - c.payload.length
  payload := c.payload

/-- R145, R126: chunk `i` of the segment `r`, with the bytes `b`, is emitted for the stream `st`, over the cache `l`. The last chunk
ends the segment, and with it a DRAINING stream: it becomes IDLE, or goes if it is withdrawn. -/
def chunkEmitted (p : Place) (st : Stream) (r : SegmentRecord) (i : Nat) (b : List Byte) (l : List SegmentRecord)
    (u : State) : State :=
  let c : EmittedChunk := { sequence := r.sequence, index := i, payload := b }
  let out := slotOutOf .chunk u.sls.slot p c
  let spent := l.map fun x => if x.stream = p.stream ∧ x.sequence = r.sequence then { x with state := .spent } else x
  let finished : Stream := { st with
    underruns := 0
    cursor := { current := none, nextIndex := 0, lastEmitted := some c, lastSent := some r.sequence } }
  if i + 1 ≠ r.count then
    slotFilled p out { st with
      underruns := 0
      cursor := { st.cursor with current := some r.sequence, nextIndex := i + 1, lastEmitted := some c } } l u
  else if st.state ≠ .draining then slotFilled p out finished spent u
  else if st.withdrawn = false then slotFilled p out { finished with state := .idle, wantedSince := none } spent u
  else streamGone p.stream (slotFilled p out finished spent u)

/-- R146, R127: how far a segment record is ahead of a last sent sequence. -/
def aheadBy (x : SegmentRecord) (t : Nat) : Nat := (x.sequence + (65536 - t % 65536)) % 65536

/-- R146: a COMPLETE record of the place's stream. -/
abbrev CompleteFor (p : Place) (x : SegmentRecord) : Prop := x.stream = p.stream ∧ x.state = .complete

/-- R127, R146: a segment record is ahead of a last sent sequence. -/
abbrev AheadOf (t : Nat) (x : SegmentRecord) : Prop := 1 ≤ aheadBy x t ∧ aheadBy x t ≤ 32767

/-- R146, steps 1 and 2 with a last sent sequence: a record that stays COMPLETE is ahead of it and, where more than 8 are ahead, one
of the four furthest ahead. -/
abbrev StaysComplete (p : Place) (t : Nat) (l : List SegmentRecord) (x : SegmentRecord) : Prop :=
  AheadOf t x ∧ (8 < l.countP (fun y => CompleteFor p y ∧ AheadOf t y) →
    l.countP (fun y => CompleteFor p y ∧ AheadOf t y ∧ aheadBy x t < aheadBy y t) < 4)

/-- R146: the COMPLETE records of the place's stream that a test names have become SPENT. -/
def spentFor (p : Place) (test : SegmentRecord → Bool) (l : List SegmentRecord) : List SegmentRecord :=
  l.map fun x => if CompleteFor p x ∧ test x = true then { x with state := .spent } else x

/-- R145: the chosen segment is SENDING. -/
def sendingFor (p : Place) (r : SegmentRecord) (l : List SegmentRecord) : List SegmentRecord :=
  l.map fun x => if x.stream = p.stream ∧ x.sequence = r.sequence then { x with state := .sending } else x

/-- R146, step 2: the skip counter after the lag cut among `n` COMPLETE records. -/
def lagCounted (n : Nat) (u : State) : State :=
  u.withSls { u.sls with skips := if 8 < n then min 65535 (u.sls.skips + (n - 4)) else u.sls.skips }

/-- R149: the SLOT_OUT record of a filler. -/
def fillerOf (n : Nat) (p : Place) : SlotOut where
  slot := n
  stream := p.stream
  kind := .fill
  sequence := none
  index := none
  alignment := p.alignment
  pad := 1024
  payload := []

/-- R147, R148: an underrun slot that carries `out`, over the cache `l`. -/
def underrunSlot (p : Place) (st : Stream) (out : SlotOut) (l : List SegmentRecord) (u : State) : State :=
  let x := slotFilled p out { st with underruns := min 65535 (st.underruns + 1) } l u
  if st.underruns = 7 then raise .underrun x else x

/-- R145 to R148: the emission of the current slot for the stream `st` of its place: the next chunk of the current segment; an
underrun where no COMPLETE record is ahead; else the first chunk of the nearest segment ahead that the lag cut leaves, or, with no
last sent sequence, of the earliest in the cache that it leaves. -/
def SlotEmitted (p : Place) (st : Stream) (u : State) (ends : State → Prop) : Prop :=
  let cache := u.rpc.cache
  (∀ q r b, st.cursor.current = some q → findSegment p.stream q u = some r →
    chunkAt st.cursor.nextIndex r.chunks = some b → ends (chunkEmitted p st r st.cursor.nextIndex b cache u)) ∧
  (st.cursor.current = none →
    (∀ x ∈ cache, CompleteFor p x → ∃ t, st.cursor.lastSent = some t ∧ ¬ AheadOf t x) →
    (∀ c, st.cursor.lastEmitted = some c → p.padding = .rep →
      ends (underrunSlot p st (slotOutOf .rep u.sls.slot p c) (spentFor p (fun _ => true) cache) u)) ∧
    (st.cursor.lastEmitted = none ∨ p.padding = .fill →
      ends (underrunSlot p st (fillerOf u.sls.slot p) (spentFor p (fun _ => true) cache) u))) ∧
  (∀ r b t, st.cursor.current = none → st.cursor.lastSent = some t → r ∈ cache → CompleteFor p r →
    StaysComplete p t cache r →
    (∀ x ∈ cache, CompleteFor p x → StaysComplete p t cache x → aheadBy r t ≤ aheadBy x t) →
    chunkAt 0 r.chunks = some b →
    ends (chunkEmitted p st r 0 b (sendingFor p r (spentFor p (fun x => ¬ StaysComplete p t cache x) cache))
      (lagCounted (cache.countP fun y => CompleteFor p y ∧ AheadOf t y) u))) ∧
  (∀ pre r post b, st.cursor.current = none → st.cursor.lastSent = none → cache = pre ++ r :: post →
    CompleteFor p r → chunkAt 0 r.chunks = some b →
    let n := cache.countP fun y => CompleteFor p y
    (n ≤ 8 → (∀ x ∈ pre, ¬ CompleteFor p x) → ends (chunkEmitted p st r 0 b (sendingFor p r cache) u)) ∧
    (8 < n → (post.countP fun y => CompleteFor p y) = 3 →
      ends (chunkEmitted p st r 0 b (sendingFor p r (spentFor p (fun _ => true) pre ++ r :: post)) (lagCounted n u))))

/-- R144: the handling of the current slot, in the state in which it has started: an unassigned slot, and one of a stream that is
gone or IDLE, carries nothing. -/
def SlotHandled (u : State) (ends : State → Prop) : Prop :=
  let place := u.sls.inForce.bind fun m => m.places[u.sls.slot]?
  (place = none ∨ place = some none → ends u) ∧
  ∀ p, place = some (some p) →
    (findStream p.stream u = none → ends u) ∧
    ∀ st, findStream p.stream u = some st →
      (st.state = .idle → ends u) ∧ (st.state ≠ .idle → SlotEmitted p st u ends)

/-! ## Invariants -/

/-- R22, R44, R46, R98: at most 160 records, no client twice, at most C guests, none before JOINED; each with at most 4
subscriptions, none twice, and at most 4 bad codes. -/
abbrev TableInv (s : State) : Prop :=
  s.ast.records.length ≤ 160 ∧ (s.ast.records.map Record.client).Nodup ∧ s.guests ≤ s.capacity ∧
    (s.cfl.node = .loading ∨ s.cfl.node = .unconfigured ∨ s.cfl.node = .listening → s.ast.records = []) ∧
    ∀ r ∈ s.ast.records, r.subs.length ≤ 4 ∧ r.subs.Nodup ∧ r.badCodes ≤ 4

/-- R25 and R47: the in-flight entries are those of the PULLING and OFFERING records, one for each, with the record's peer
station; a steer hold runs only on a STEERED record, an expectation hold only on an EXPECTED one, and an EXPECTED record
has a peer station. -/
def HandoffInv (s : State) : Prop :=
  (s.hoe.inflight.map Inflight.client).Nodup ∧
    (∀ e ∈ s.hoe.inflight, ∃ r ∈ s.ast.records, r.client = e.client ∧ r.peer = some e.peer ∧
      r.state = if e.kind = .pull then .pulling else .offering) ∧
    ∀ r ∈ s.ast.records,
      (r.state = .pulling ∨ r.state = .offering → ∃ e ∈ s.hoe.inflight, e.client = r.client) ∧
        (r.timer = some .steer → r.state = .steered) ∧ (r.timer = some .expectation → r.state = .expected) ∧
        (r.state = .expected → r.peer.isSome)

/-- R26 and R84: a HOME record is bound to a seat of the block that is CHECKED_IN by its client. -/
def HomeInv (s : State) : Prop :=
  ∀ r ∈ s.ast.records, r.cls = .home → ∃ b, r.binding = some b ∧ checkedInBy r.client b.seat s = true

/-- R76, R83: no ticket number appears in more than one seat entry. -/
def TicketInv (s : State) : Prop :=
  ∀ (i j : Nat) (a b : SeatEntry) (n : Nat), s.ens.seats[i]? = some a → s.ens.seats[j]? = some b →
    a.standing.ticketNumber = some n → b.standing.ticketNumber = some n → i = j

/-- R16, R47, R51, R103, R116, R127, R168, R180, R184, R185: no table, list, queue or lane grows beyond its capacity; the
NBT holds one entry for a station, and the NTU one cell for a kind (R186). -/
def CapacityInv (s : State) : Prop :=
  s.rbc.urgent.length ≤ 8 ∧ s.rbc.routine.length ≤ 8 ∧ s.rsl.inbound.length ≤ 32 ∧ s.rsl.lane.length ≤ 64 ∧
    s.rsl.slotLane.length ≤ 4 ∧ s.hoe.inflight.length ≤ 8 ∧ s.hoe.waitQueue.length ≤ 16 ∧
    s.cku.claims.length ≤ 8 ∧ s.rpc.streams.length + s.rpc.endReports.length ≤ 8 ∧ s.rpc.cache.length ≤ 64 ∧
    (s.nbt.map Neighbour.station).Nodup ∧ (∀ e ∈ s.nbt, 1 ≤ e.station ∧ e.station ≤ 31) ∧
    s.ntu.kinds.map NoticeCell.kind = NoticeKind.all

/-- R16: at most 30 entries, none for the node's own address. That address, where the receiver is on, is one of the 31 of the
segment (R194), and a LOADING node has its receiver off and an empty table (R192). -/
def NeighbourInv (s : State) : Prop :=
  s.nbt.length ≤ 30 ∧ (∀ e ∈ s.nbt, e.station ≠ s.station) ∧
    (s.rbc.receiver = true → 1 ≤ s.station ∧ s.station ≤ 31) ∧
    (s.cfl.node = .loading → s.rbc.receiver = false ∧ s.nbt = [])

/-- The records that the removal of a client record can still place in the AST's result backlog without a request being taken: none
of an EXPECTED one, one of any other (R35, R36), and one more of its held association (R29, R184). -/
def Record.owed (r : Record) : Nat :=
  if r.state = .expected then 0 else if r.held.isSome then 2 else 1

/-- R50, R112, R184: the HOE's result backlog holds at most 8 records, the CKU's at most 16 and the AST's at most 320. Each bound
stands with what can still be placed there: one result for an in-flight entry, two for a pending claim, and what the client records
owe. An EXPECTED record has no timer that places one. -/
def BacklogInv (s : State) : Prop :=
  s.hoe.inflight.length + s.hoe.backlog.length ≤ 8 ∧
    2 * s.cku.claims.length + s.cku.backlog.length ≤ 16 ∧
    (s.ast.records.map Record.owed).sum + s.rsl.astBacklog.length ≤ 320 ∧
    ∀ r ∈ s.ast.records, r.state = .expected → r.idle = none ∧ r.timer ≠ some .claimant

/-- R116, R127, R103, R168, R169: one stream entry for an id, one segment record for a stream and a 16-bit sequence, one pending claim
for a client; at most one advert waits. The tags of the frames held are those of different frames (log entry 14), and so are
those of the claims. -/
def KeysInv (s : State) : Prop :=
  let held := (s.rbc.transmitter.map Transmitter.frame).toList ++ s.rbc.urgent ++ s.rbc.routine
  StreamKeys s ∧ (s.cku.claims.map Claim.client).Nodup ∧ (s.cku.claims.map Claim.tag).Nodup ∧
    (∀ k ∈ s.cku.claims, k.tag < s.rbc.nextTag) ∧ (held.map TxFrame.tag).Nodup ∧ (∀ g ∈ held, g.tag < s.rbc.nextTag) ∧
    s.rbc.routine.countP (fun g => g.body.isAdvert) ≤ 1

/-- R155: the site time is a 32-bit count. -/
def ClockInv (s : State) : Prop := s.sck.time ≤ 4294967295

/-- R199, R200 and the first table of 11: a node state and one that may follow it without a full reset. -/
def NodeMove : NodeState → NodeState → Prop
  | .loading, .unconfigured | .loading, .listening | .listening, .joined | .listening, .muted | .joined, .muted => True
  | a, b => a = b

end Sys2Proof.Machine
end

