-- ==== Sys2Proof/Certificates/Slice0/Obligations.lean ====
section
/-! DEFINITION. The statements for the provers: what the commands of the block do, by the numbered rules of the spec. -/

open Sys2Proof Sys2Proof.Machine

/-! ## The queue of commands -/

/-- The step takes the command at the front of the queue and runs it with the queue's rest; an empty queue idles (the model's
queue; the idling is log entry 2). -/
def Obligations.StepRunsFrontCommand : Prop :=
  (∀ (c : Instr) (rest : List Instr) (s : State), s.pending = c :: rest → step s = exec c (s.withPending rest)) ∧
    ∀ s : State, s.pending = [] → step s = .next s

/-- Every command answers a next state in every state, and leaves the queue of commands as it is: the spec gives the block no
stop. What a command does that reports an event which cannot occur in the state is log entry 1. -/
def Obligations.EveryCommandCompletes : Prop :=
  ∀ (c : Instr) (s : State), ∃ t, exec c s = .next t ∧ t.pending = s.pending

/-! ## Reset and start (11) -/

/-- R192 with the values of R6, R46, R75, R94, R115, R136, R154, R163, R179, R185, R190. What stays over the reset is the
model's choice of the lines that others drive (log entry 13). -/
def Obligations.FullResetClearsEveryBlock : Prop :=
  ∀ (strap : Bool) (s : State), ∃ t, exec (.fullReset strap) s = .next t ∧
    t.cfl = { node := .loading, reason := none, config := none, clamped := false, service := strap,
              listenTimer := none } ∧
    t.prm = { pressure := -1600, monitor := .normal, restoreHold := 0, lastAdvert := none, advertTimer := none,
              holdOff := none, heldTrigger := false } ∧
    t.nbt = [] ∧ t.ast = { records := [], steerFailures := 0 } ∧
    t.hoe = { inflight := [], waitQueue := [], backlog := [] } ∧
    t.ens = { seats := [], freeze := 0, frozenRefusals := 0, staleUpdates := 0 } ∧
    t.cku = { claims := [], backlog := [] } ∧
    t.rpc = { streams := [], endReports := [], cache := [], malformed := 0, gaps := 0, nextBorn := 0 } ∧
    t.sls = { running := false, slot := 0, inForce := none, nextMap := none, resetPending := false, slotMissed := 0,
              skips := 0 } ∧
    t.sck = { time := 0, phase := .unknown, advancing := false } ∧
    t.rbc = { receiver := false, urgent := [], routine := [], transmitter := none, carrier := s.rbc.carrier,
              ownRun := s.rbc.carrier && (s.rbc.ownRun || s.rbc.sends), idle := 0, jamReported := false,
              crcErrors := 0, txDrops := 0, driven := [], nextTag := 0 } ∧
    t.rsl = { inbound := [], lane := [], slotLane := [], astBacklog := [], linkErrors := 0, sending := none,
              basebandReady := s.rsl.basebandReady, serialOut := [] } ∧
    (∀ k : NoticeKind, (t.ntu.cell k).pending = false ∧ (t.ntu.cell k).enabled = false ∧
      (t.ntu.cell k).counter = 0) ∧
    t.ntu.groups = { cell := false, ticket := false, replay := false, links := false } ∧ t.ntu.globalEnable = false

/-- The invariants hold of the state after reset. -/
def Obligations.InvariantsAtReset : Prop :=
  TableInv State.reset ∧ HomeInv State.reset ∧ TicketInv State.reset ∧ HandoffInv State.reset ∧
    CapacityInv State.reset ∧ BacklogInv State.reset ∧ NeighbourInv State.reset ∧ KeysInv State.reset ∧
    ClockInv State.reset

/-- R193, R194: in LOADING a read that fails, and an image with a fault, lead to UNCONFIGURED with the first fault's reason;
nothing else of the node changes. -/
def Obligations.ImageFaultsUnconfigure : Prop :=
  ∀ (b : List Byte) (s : State), s.cfl.node = .loading → b.length = 48 →
    let stop (r : FaultReason) : Host.Outcome State Fault Refusal :=
      .next (s.withCfl { s.cfl with node := .unconfigured, reason := some r })
    exec .imageReadFailed s = stop .noImage ∧
      (byteSum b ≠ 0 → exec (.imageReadComplete b) s = stop .badSum) ∧
      (byteSum b = 0 →
        (fieldAt b 0 1 ≠ 1 → exec (.imageReadComplete b) s = stop .badFormat) ∧
        (fieldAt b 0 1 = 1 →
          (fieldAt b 2 1 = 0 ∨ 31 < fieldAt b 2 1 → exec (.imageReadComplete b) s = stop .badAddress) ∧
          (1 ≤ fieldAt b 2 1 ∧ fieldAt b 2 1 ≤ 31 →
            (fieldAt b 1 1 = 0 → exec (.imageReadComplete b) s = stop .badSection) ∧
            (fieldAt b 1 1 ≠ 0 → (fieldAt b 3 2 = 0 ∨ 4095 < fieldAt b 3 2 ∨ fieldAt b 5 2 = 0) →
              exec (.imageReadComplete b) s = stop .badBlock))))

/-- R198, R137, R143, R94: an image without a fault takes a node that is as the full reset left it into LISTENING, with the
clamped values in force. -/
def Obligations.GoodImageEntersListening : Prop :=
  ∀ (b : List Byte) (s : State), s.cfl.node = .loading → b.length = 48 → byteSum b = 0 → fieldAt b 0 1 = 1 →
    1 ≤ fieldAt b 2 1 → fieldAt b 2 1 ≤ 31 → fieldAt b 1 1 ≠ 0 → 1 ≤ fieldAt b 3 2 → fieldAt b 3 2 ≤ 4095 →
    fieldAt b 5 2 ≠ 0 → s.prm = State.reset.prm → s.ast = State.reset.ast → s.rpc = State.reset.rpc →
    s.sls = State.reset.sls → s.rsl.slotLane = [] →
    let c := clampConfig (readImage b)
    exec (.imageReadComplete b) s = .next { s with
      cfl := { s.cfl with node := .listening, config := some c, clamped := decide (c ≠ readImage b),
                          listenTimer := some 2000 }
      rbc := { s.rbc with receiver := true }
      sck := { s.sck with advancing := true }
      ens := { s.ens with seats := List.replicate c.seatCount { standing := .empty, revision := 0, duplicates := 0 } }
      sls := { s.sls with running := true, slot := 0,
                          inForce := some { places := List.replicate c.slots none, order := [], pool := 0 } } }

/-- R196, R197: each clamp, field by field; the four steps that clamp the three limits; and the ranges that the clamped values of a
faultless image lie in. -/
def Obligations.ClampedConfigInRange : Prop :=
  ∀ r : NodeConfig, 1 ≤ r.firstSeat → r.firstSeat ≤ 4095 → 1 ≤ r.seatCount →
    let c := clampConfig r
    (c.station = r.station ∧ c.sectionId = r.sectionId ∧ c.firstSeat = r.firstSeat ∧ c.freezeMask = r.freezeMask ∧
      c.siteKey = r.siteKey) ∧
    c.seatCount = (if 4095 < r.firstSeat + (if 192 < r.seatCount then 192 else r.seatCount) - 1
      then 4096 - r.firstSeat else if 192 < r.seatCount then 192 else r.seatCount) ∧
    c.capacity = (if r.capacity < 16 then 16 else if 160 < r.capacity then 160 else r.capacity) ∧
    c.clientWeight = (if 16 < r.clientWeight then 16 else r.clientWeight) ∧
    c.slots = (if r.slots < 8 then 8 else if 32 < r.slots then 32 else r.slots) ∧
    c.rmax = (if c.slots < r.rmax then c.slots else r.rmax) ∧ c.frameCode = r.frameCode % 4 ∧
    c.margin = (if 1023 < r.margin then 1023 else r.margin) ∧
    (let ranged (v : Int) : Int := if v < -1600 then -1600 else if 2047 < v then 2047 else v
      let low := ranged r.low
      let high := if ranged r.high < low + 16 then low + 16 else ranged r.high
      let critical := if ranged r.critical < high + 16 then high + 16 else ranged r.critical
      (critical ≤ 2047 → c.low = low ∧ c.high = high ∧ c.critical = critical) ∧
      (2047 < critical → c.low = (if 2015 < low then 2015 else low) ∧
        c.high = (if 2031 < high then 2031 else high) ∧ c.critical = 2047)) ∧
    (-1600 ≤ c.low ∧ c.low + 16 ≤ c.high ∧ c.high + 16 ≤ c.critical ∧ c.critical ≤ 2047) ∧
    (-1600 ≤ r.low → r.low + 16 ≤ r.high → r.high + 16 ≤ r.critical → r.critical ≤ 2047 →
      c.low = r.low ∧ c.high = r.high ∧ c.critical = r.critical) ∧
    1 ≤ c.seatCount ∧ c.firstSeat + c.seatCount ≤ 4096

/-- R199, R92, R11: the listen timer's expiry takes a LISTENING node into JOINED, with its RESYNC_REQUEST and then its first
LOAD_ADVERT on the ROUTINE queue. -/
def Obligations.ListenTimerEntersJoined : Prop :=
  ∀ (c : NodeConfig) (d : Nat) (s : State), s.cfl.config = some c → s.cfl.node = .listening →
    s.cfl.listenTimer = some d → s.rbc.routine = [] →
    exec .listenTimerExpiry s = .next
      (((s.withCfl { s.cfl with node := .joined, listenTimer := none }).withRbc
        { s.rbc with
          routine :=
            [{ tag := s.rbc.nextTag, dest := 0, body := .resyncRequest c.firstSeat c.seatCount },
             { tag := s.rbc.nextTag + 1, dest := 0,
               body := .loadAdvert c.firstSeat c.seatCount s.prm.pressure s.prm.monitor s.ast.records.length
                 (s.prm.monitor == .critical || decide (0 < s.prm.restoreHold)) }]
          nextTag := s.rbc.nextTag + 2 }).withPrm
        { s.prm with lastAdvert := some { pressure := s.prm.pressure, monitor := s.prm.monitor },
                     advertTimer := some 2000, holdOff := some 250, heldTrigger := false })

/-- R191: a STATUS_QUERY is answered at once with the node's values as they stand, and changes nothing else; the counts by
class and by state each add up to the total. -/
def Obligations.StatusQueryAnswered : Prop :=
  ∀ (rest : List LinkRecord) (s : State), RequestNext 72 [] rest s →
    ∃ r : StatusReply,
      exec .statusQuery s = .next (placeOnLane (.statusReply r) (requestGone rest s)) ∧
      (r.node = s.cfl.node ∧ r.reason = s.cfl.reason ∧ r.station = s.cfl.config.map NodeConfig.station ∧
        r.sectionId = s.cfl.config.map NodeConfig.sectionId ∧ r.firstSeat = s.cfl.config.map NodeConfig.firstSeat ∧
        r.seatCount = s.cfl.config.map NodeConfig.seatCount ∧ r.clamped = s.cfl.clamped ∧ r.service = s.cfl.service) ∧
      (r.pressure = s.prm.pressure ∧ r.monitor = s.prm.monitor ∧
        r.pool = (if s.prm.monitor = .critical ∨ 0 < s.prm.restoreHold then s.rmax / 2 else s.rmax) ∧
        r.restoreHold = s.prm.restoreHold ∧ r.assignedSlots = s.assigned) ∧
      (r.clients = s.ast.records.length ∧ r.guests = s.guests ∧ r.byClass.sum = r.clients ∧
        r.byState.sum = r.clients ∧ r.byClass[0]? = some r.guests ∧
        r.byClass = [ClientClass.guest, .claimant, .home].map (fun k => s.ast.records.countP fun x => x.cls == k) ∧
        r.byState = [RecordState.expected, .pulling, .active, .offering, .steered, .releasing].map
          (fun k => s.ast.records.countP fun x => x.state == k)) ∧
      (r.inflight = s.hoe.inflight.length ∧ r.waiting = s.hoe.waitQueue.length ∧ r.claims = s.cku.claims.length) ∧
      (r.freeze = s.ens.freeze ∧ r.phase = s.sck.phase ∧ r.siteTime = s.sck.time) ∧
      r.crcErrors = s.rbc.crcErrors ∧ r.txDrops = s.rbc.txDrops ∧ r.frozenRefusals = s.ens.frozenRefusals ∧
      r.staleUpdates = s.ens.staleUpdates ∧ r.malformed = s.rpc.malformed ∧ r.gaps = s.rpc.gaps ∧
      r.slotMissed = s.sls.slotMissed ∧ r.skips = s.sls.skips ∧ r.steerFailures = s.ast.steerFailures ∧
      r.linkErrors = s.rsl.linkErrors

/-! ## Site time and phase (08) -/

/-- R155: a tick adds one to the site time while the local advance runs, up to the greatest value, and touches nothing
else. -/
def Obligations.SiteTimeTickCounts : Prop :=
  ∀ s : State,
    (s.sck.advancing = true → s.sck.time < 4294967295 →
      exec .siteTimeTick s = .next (s.withSck { s.sck with time := s.sck.time + 1 })) ∧
    (s.sck.advancing = true → s.sck.time = 4294967295 → exec .siteTimeTick s = .next s) ∧
    (s.sck.advancing = false → exec .siteTimeTick s = .next s)

/-- R156 to R160: the two parts of a CLOCK frame, independent of each other, with the auto-freeze at FIRST_HALF. -/
def Obligations.ClockFrameTaken : Prop :=
  ∀ (source time : Nat) (phase : Option Phase) (f : BusFrame) (c : NodeConfig) (s : State),
    FrameTaken 32 source f s → s.hearing = true → s.cfl.config = some c → readClock f.payload = some (time, phase) →
    let adopts (p : Phase) : Prop := s.sck.phase.code < p.code ∨ (s.sck.phase = .fullTime ∧ p = .preGates)
    ∃ t, exec (.clock f) s = .next t ∧
      t = ((((carrierEnded s).withSck t.sck).withEns t.ens).withNtu t.ntu) ∧
      t.sck.time = max s.sck.time time ∧ t.sck.advancing = s.sck.advancing ∧
      (t.ntu = if time < s.sck.time ∧ 100 < s.sck.time - time then s.ntu.occur .clockDisagree else s.ntu) ∧
      (∀ p, phase = some p → adopts p → t.sck.phase = p) ∧
      (∀ p, phase = some p → ¬ adopts p → t.sck.phase = s.sck.phase) ∧
      (phase = none → t.sck.phase = s.sck.phase) ∧
      (phase = some .firstHalf → adopts .firstHalf →
        t.ens = { s.ens with freeze := s.ens.freeze ||| c.freezeMask }) ∧
      (phase ≠ some .firstHalf ∨ ¬ adopts .firstHalf → t.ens = s.ens)

/-- R155, R158: no command but a full reset lowers the site time, or moves the phase back but from FULL_TIME to PRE_GATES. -/
def Obligations.ClockMovesForward : Prop :=
  ∀ (c : Instr) (s t : State), ClockInv s → (∀ strap, c ≠ .fullReset strap) → exec c s = .next t →
    ClockInv t ∧ s.sck.time ≤ t.sck.time ∧
      (s.sck.phase.code ≤ t.sck.phase.code ∨ (s.sck.phase = .fullTime ∧ t.sck.phase = .preGates))

/-! ## Cell pressure (01) -/

/-- R2, R3, R4, R7, R8: a recompute computes the pressure, makes at most one transition of the monitor with its notice, and
changes the restore hold by the transition; it touches nothing but the PRM, the ROUTINE queue and the notices. -/
def Obligations.RecomputeGivesPressure : Prop :=
  ∀ (c : NodeConfig) (s t : State), s.cfl.config = some c → t = recompute s →
    let load := (c.clientWeight * (s.ast.records.length * 1600 / c.capacity) +
      (16 - c.clientWeight) * (s.assigned * 1600 / c.slots)) / 16
    let p : Int := if 3647 < load then 2047 else (load : Int) - 1600
    t.prm.pressure = p ∧
    (s.prm.monitor = .normal →
      (c.critical ≤ p → t.prm.monitor = .critical) ∧
      (c.high ≤ p → p < c.critical → t.prm.monitor = .high) ∧
      (p < c.high → p < c.critical → t.prm.monitor = .normal)) ∧
    (s.prm.monitor = .high →
      (c.critical ≤ p → t.prm.monitor = .critical) ∧ (p < c.low → p < c.critical → t.prm.monitor = .normal) ∧
      (c.low ≤ p → p < c.critical → t.prm.monitor = .high)) ∧
    (s.prm.monitor = .critical →
      (p < c.low → t.prm.monitor = .normal) ∧ (c.low ≤ p → p < c.high → t.prm.monitor = .high) ∧
      (c.low ≤ p → c.high ≤ p → t.prm.monitor = .critical)) ∧
    (t.prm.monitor = s.prm.monitor → t.ntu = s.ntu ∧ t.prm.restoreHold = s.prm.restoreHold) ∧
    (t.prm.monitor ≠ s.prm.monitor →
      t.ntu = s.ntu.occur (match t.prm.monitor with
        | .high => .pressureHigh | .critical => .pressureCritical | .normal => .pressureNormal) ∧
      t.prm.restoreHold = (if t.prm.monitor = .critical then 0
        else if s.prm.monitor = .critical then 4 else s.prm.restoreHold)) ∧
    t = (((s.withPrm t.prm).withNtu t.ntu).withRbc t.rbc) ∧ t.prm.advertTimer = s.prm.advertTimer ∧
    t.rbc = { s.rbc with routine := t.rbc.routine, nextTag := t.rbc.nextTag, txDrops := t.rbc.txDrops }

/-- R12: the change trigger of a recompute, and what it does. -/
def Obligations.ChangeTriggerQueuesAdvert : Prop :=
  ∀ (c : NodeConfig) (s t : State), s.cfl.config = some c → t = recompute s →
    let held : State := (s.withPrm { s.prm with
      pressure := t.prm.pressure, monitor := t.prm.monitor, restoreHold := t.prm.restoreHold }).withNtu t.ntu
    let triggers : Prop := ∃ a, s.prm.lastAdvert = some a ∧
      (64 ≤ (t.prm.pressure - a.pressure).natAbs ∨ t.prm.monitor ≠ s.prm.monitor ∨ t.prm.monitor ≠ a.monitor)
    (¬ triggers → t = held) ∧
    (triggers → s.prm.holdOff.isSome → t = held.withPrm { held.prm with heldTrigger := true }) ∧
    (triggers → s.prm.holdOff = none → s.cfl.node = .joined → t = advertQueued c held) ∧
    (triggers → s.prm.holdOff = none → s.cfl.node ≠ .joined → t = held)

/-- R13: the hold-off timer's expiry acts on the held trigger, and a periodic advert that is accepted clears it. -/
def Obligations.HoldOffExpiryActsOnTrigger : Prop :=
  ∀ (c : NodeConfig) (d : Nat) (s : State), s.cfl.config = some c → s.cfl.node = .joined →
    (s.prm.holdOff = some d → s.prm.heldTrigger = true →
      exec .holdOffTimerExpiry s = .next (advertQueued c (s.withPrm { s.prm with holdOff := none }))) ∧
    (s.prm.holdOff = some d → s.prm.heldTrigger = false →
      exec .holdOffTimerExpiry s = .next (s.withPrm { s.prm with holdOff := none })) ∧
    (s.prm.advertTimer = some d → (routineWithAdvert c s).isSome →
      ∃ t, exec .advertTimerExpiry s = .next t ∧ t.prm.heldTrigger = false ∧
        (s.prm.monitor = .normal → t = advertQueued c (s.withPrm { s.prm with advertTimer := some 2000 })))

/-- R64, R65, R66, R69: at the advert timer's expiry a HIGH or CRITICAL node looks at its four latest candidates, one by one, and
offers the first that has a target to the target with the least advertised pressure; with no target, or with no room at the HOE, it
makes no offer. An offer whose frame the RBC refuses ends at once. -/
def Obligations.SteeringOffersCandidate : Prop :=
  ∀ (c : NodeConfig) (d : Nat) (s : State),
    s.cfl.config = some c → s.cfl.node = .joined → s.prm.advertTimer = some d → s.prm.monitor ≠ .normal →
    (s.ast.records.map Record.client).Nodup →
    let a := advertQueued c (s.withPrm { s.prm with advertTimer := some 2000 })
    let candidates :=
      (s.ast.records.reverse.filter fun x => x.state = .active ∧ x.cls = .guest ∧ x.heard ≠ []).take 4
    let fits (x : Record) (e : Neighbour) : Prop :=
      e.station ∈ x.heard ∧ e.declineHold = none ∧ e.pressure ≤ s.prm.pressure - c.margin
    (8 ≤ s.hoe.inflight.length ∨ s.hoe.backlog ≠ [] → exec .advertTimerExpiry s = .next a) ∧
    ((∀ x ∈ candidates, ∀ e ∈ s.nbt, ¬ fits x e) → exec .advertTimerExpiry s = .next a) ∧
    ∀ (before after : List Record) (r : Record) (e : Neighbour),
      s.hoe.inflight.length < 8 → s.hoe.backlog = [] → candidates = before ++ r :: after →
      (∀ x ∈ before, ∀ y ∈ s.nbt, ¬ fits x y) → e ∈ s.nbt → fits r e →
      (∀ x ∈ s.nbt, fits r x → e.pressure < x.pressure ∨ (e.pressure = x.pressure ∧ e.station ≤ x.station)) →
      (s.rbc.urgent.length < 8 → exec .advertTimerExpiry s = .next
        (urgentSent e.station (.steerOffer r.client (r.binding.map Binding.seat) r.subs.length)
          ((recordBecomes r.client { r with state := .offering, peer := some e.station } a).withHoe
            { s.hoe with inflight := s.hoe.inflight ++
              [{ client := r.client, kind := .offer, peer := e.station, attempt := 1, frame := .queued,
                 tag := a.rbc.nextTag, timer := some 400 }] }))) ∧
      (8 ≤ s.rbc.urgent.length → (∀ x ∈ s.hoe.inflight, x.client ≠ r.client) → exec .advertTimerExpiry s = .next
        ((recordBecomes r.client { r with peer := none } a).withRbc
          { a.rbc with txDrops := min 65535 (a.rbc.txDrops + 1) }))

/-- R20 and R21: the two questions that the neighbour table answers. -/
def Obligations.NeighbourQuestionsAnswered : Prop :=
  ∀ (q : Nat) (l : List Nat) (exclude : Bool) (bound : Option Int) (e : Neighbour) (s : State),
    let covers (x : Neighbour) : Prop := x.firstSeat ≤ q ∧ q < x.firstSeat + x.seatCount
    let remains (x : Neighbour) : Prop := x.station ∈ l ∧ (exclude = true → x.declineHold = none) ∧
      ∀ b, bound = some b → x.pressure ≤ b
    ((∀ x ∈ s.nbt, ¬ covers x) → ownerOf q s = none) ∧
    (e ∈ s.nbt → covers e →
      (∀ x ∈ s.nbt, covers x →
        x.lastHeard < e.lastHeard ∨ (x.lastHeard = e.lastHeard ∧ e.station ≤ x.station)) →
      ownerOf q s = some e.station) ∧
    ((∀ x ∈ s.nbt, ¬ remains x) → leastPressure l exclude bound s = none) ∧
    (e ∈ s.nbt → remains e →
      (∀ x ∈ s.nbt, remains x →
        e.pressure < x.pressure ∨ (e.pressure = x.pressure ∧ e.station ≤ x.station)) →
      leastPressure l exclude bound s = some e.station)

/-- R18: an entry that ages out goes with its decline hold, and an advert heard later makes a new one. -/
def Obligations.AgeExpiryRemovesNeighbour : Prop :=
  ∀ (station d : Nat) (e : Neighbour) (s : State), e ∈ s.nbt → e.station = station → e.ageTimer = some d →
    (s.nbt.map Neighbour.station).Nodup →
    ∃ t, exec (.ageTimerExpiry station) s = .next t ∧
      t = ((s.withNbt (s.nbt.filter fun x => x.station ≠ station)).withNtu (s.ntu.occur .neighbourLost)) ∧
      ∀ (f : BusFrame) (a : AdvertPayload), FrameTaken 1 station f s → readAdvert f.payload = some a →
        exec (.loadAdvert f) t = .next ((carrierEnded t).withNbt (t.nbt ++
          [{ station := station, firstSeat := a.firstSeat, seatCount := a.seatCount, pressure := a.pressure,
             lastHeard := s.sck.time, ageTimer := some 6000, declineHold := none }]))

/-- R17, R19: a LOAD_ADVERT refreshes the station's entry, with its decline hold as it was, or makes one; a decline hold that
runs out is absent. -/
def Obligations.LoadAdvertKeepsNeighbours : Prop :=
  ∀ (source : Nat) (f : BusFrame) (a : AdvertPayload) (s : State), FrameTaken 1 source f s →
    (readAdvert f.payload = none → exec (.loadAdvert f) s = .next (carrierEnded s)) ∧
    (readAdvert f.payload = some a → (∃ e ∈ s.nbt, e.station = source) →
      exec (.loadAdvert f) s = .next ((carrierEnded s).withNbt (s.nbt.map fun e =>
        if e.station = source then
          { station := source, firstSeat := a.firstSeat, seatCount := a.seatCount, pressure := a.pressure,
            lastHeard := s.sck.time, ageTimer := some 6000, declineHold := e.declineHold }
        else e))) ∧
    (readAdvert f.payload = some a → (∀ e ∈ s.nbt, e.station ≠ source) →
      exec (.loadAdvert f) s = .next ((carrierEnded s).withNbt (s.nbt ++
        [{ station := source, firstSeat := a.firstSeat, seatCount := a.seatCount, pressure := a.pressure,
           lastHeard := s.sck.time, ageTimer := some 6000, declineHold := none }]))) ∧
    exec (.declineHoldExpiry source) s = .next (s.withNbt (s.nbt.map fun e =>
      if e.station = source then { e with declineHold := none } else e))

/-! ## Association (02) -/

/-- R34: a HEARD replaces the record's heard list by the normalised list, and restarts the idle timer of a record in ACTIVE,
OFFERING or STEERED; for any other state, and for no record, it is ignored. The normalised list is that of R32: the entries
in range and not the node's own, each once, where it first stands. -/
def Obligations.HeardReplacesList : Prop :=
  ∀ (body : List Byte) (client : Nat) (l : List Nat) (rest : List LinkRecord) (s : State),
    RequestNext 65 body rest s → readHeard body = some (client, l) → (s.ast.records.map Record.client).Nodup →
    ∃ n : List Nat,
      ((∀ a, a ∈ n ↔ a ∈ l ∧ a ≠ 0 ∧ a ≤ 31 ∧ a ≠ s.station) ∧ n.Nodup ∧ n = normaliseHeard s.station l ∧
        ∀ k, normaliseHeard s.station (l.take k) <+: n) ∧
      (∀ r, findRecord client s = some r → (r.state = .active ∨ r.state = .offering ∨ r.state = .steered) →
        exec .heard s = .next (recordBecomes client { r with heard := n, idle := some 120000 } (requestGone rest s))) ∧
      (∀ r, findRecord client s = some r → r.state = .pulling →
        exec .heard s = .next (recordBecomes client { r with heard := n } (requestGone rest s))) ∧
      (∀ r, findRecord client s = some r → (r.state = .expected ∨ r.state = .releasing) →
        exec .heard s = .next (requestGone rest s)) ∧
      (findRecord client s = none → exec .heard s = .next (requestGone rest s))

/-- R27, R30, R31, R33: an ASSOCIATE with no previous station, or with the node's own, begins an ACTIVE record: a CLAIMANT for
a declared seat that holds a ticket, a GUEST where a guest place is free; with the table or the guests full it is refused
with the suggestion of the neighbour table. In the other node states it is refused. A declared seat holds a ticket where it lies
in the node's block and its entry is ISSUED or CHECKED_IN. -/
def Obligations.AssociateAdmitsClient : Prop :=
  (∀ (c : NodeConfig) (seat : Nat) (s : State), s.cfl.config = some c →
    (seatTicketed seat s = true ↔ c.firstSeat ≤ seat ∧ seat < c.firstSeat + c.seatCount ∧
      ∃ e, s.ens.seats[seat - c.firstSeat]? = some e ∧
        ((∃ t, e.standing = .issued t) ∨ ∃ t holder time, e.standing = .checkedIn t holder time))) ∧
  ∀ (body : List Byte) (q : AssocRequest) (rest : List LinkRecord) (s : State),
    RequestNext 64 body rest s → readAssociate body = some q → findRecord q.client s = none →
    let u := requestGone rest s
    let ticketed : Prop := ∃ seat, q.declaredSeat = some seat ∧ seatTicketed seat s = true
    let answer (code : AssocCode) (cls : Option ClientClass) (sug : Option Nat) (x : State) :
        Host.Outcome State Fault Refusal := .next (placeOnLane (.assocResult q.client code cls sug []) x)
    let record (cls : ClientClass) : Record :=
      { client := q.client, state := .active, cls := cls, since := s.sck.time,
        heard := normaliseHeard s.station q.heard, binding := none, subs := [], badCodes := 0, peer := none,
        timer := if cls = .claimant then some .claimant else none, idle := some 120000, held := none,
        granted := [] }
    let added (cls : ClientClass) : State := recompute (u.withAst { s.ast with records := s.ast.records ++ [record cls] })
    (s.cfl.node = .joined → (q.prevSection = none ∨ q.prevSection = s.ownSection) →
      (q.prevStation = none ∨ q.prevStation = some s.station) →
      (s.ast.records.length < 160 → ticketed →
        exec .associate s = answer .accepted (some .claimant) none (added .claimant)) ∧
      (s.ast.records.length < 160 → ¬ ticketed → s.guests < s.capacity →
        exec .associate s = answer .accepted (some .guest) none (added .guest)) ∧
      ((160 ≤ s.ast.records.length ∨ (¬ ticketed ∧ s.capacity ≤ s.guests)) →
        exec .associate s = answer .refusedFull none
          (leastPressure (normaliseHeard s.station q.heard) false none s) u)) ∧
    (s.cfl.node = .joined → s.ast.records.length < 160 → ¬ ticketed → s.guests < s.capacity →
      (∀ n, q.prevSection = some n → s.ownSection ≠ some n →
        exec .associate s = answer .freshForeign (some .guest) none (added .guest)) ∧
      (∀ a, (q.prevSection = none ∨ q.prevSection = s.ownSection) → q.prevStation = some a → a ≠ s.station →
        s.sck.phase = .unknown →
        exec .associate s = answer .freshNoClock (some .guest) none (added .guest))) ∧
    (s.cfl.node = .listening → exec .associate s = answer .refusedStarting none none u) ∧
    (s.cfl.node = .unconfigured → exec .associate s = answer .refusedUnconfigured none none u) ∧
    (s.cfl.node = .muted → exec .associate s = answer .refusedMuted none none u)

/-- R27, R28, R29, R35, R45, R48, R51, R57, R161: an ASSOCIATE of a client that has a record, by the record's state, in a JOINED node.
An EXPECTED client's pull begins, waits, is answered REFUSED_BUSY, or fails at once where the RBC refuses both frames. A MUTED node
serves a record in ACTIVE, OFFERING or STEERED in the same way and refuses any other. A withdrawn grant leaves its pull in the record
(R29); what the peer's retry then meets is CtxPullDecided. -/
def Obligations.AssociateMeetsRecord : Prop :=
  ∀ (body : List Byte) (q : AssocRequest) (r : Record) (rest : List LinkRecord) (s : State),
    RequestNext 64 body rest s → readAssociate body = some q → findRecord q.client s = some r →
    (s.ast.records.map Record.client).Nodup →
    let u := requestGone rest s
    let heard := normaliseHeard s.station q.heard
    let answer (code : AssocCode) (x : State) : Host.Outcome State Fault Refusal :=
      .next (placeOnLane (.assocResult q.client code (some r.cls) none []) x)
    let fresh : Option RecordTimer := if r.cls = .claimant then some .claimant else none
    let active : Record := { r with state := .active, peer := none, timer := fresh, heard := heard, idle := some 120000 }
    (s.cfl.node = .joined ∨ s.cfl.node = .muted →
      (r.state = .active ∨ r.state = .offering →
        exec .associate s = answer .accepted (recordBecomes q.client { r with heard := heard, idle := some 120000 } u)) ∧
      (r.state = .steered →
        exec .associate s = answer .accepted (recordBecomes q.client { active with timer := none }
          (u.withAst { s.ast with steerFailures := min 65535 (s.ast.steerFailures + 1) })))) ∧
    (s.cfl.node = .muted → r.state = .pulling ∨ r.state = .expected ∨ r.state = .releasing →
      exec .associate s = .next (placeOnLane (.assocResult q.client .refusedMuted none none []) u)) ∧
    (s.cfl.node = .joined →
      (r.state = .pulling → exec .associate s = .next u) ∧
      (r.state = .expected → s.sck.phase = .unknown →
        exec .associate s = answer .freshNoClock (recordBecomes q.client active u)) ∧
      (∀ a, r.state = .expected → s.sck.phase ≠ .unknown → r.peer = some a →
        let pulling : Record := { r with state := .pulling, timer := fresh, heard := heard }
        (s.hoe.waitQueue = [] → s.hoe.inflight.length < 8 → s.rbc.urgent.length < 8 →
          exec .associate s = .next (pullBegun q.client r.since a (recordBecomes q.client pulling u))) ∧
        (s.hoe.waitQueue = [] → s.hoe.inflight.length < 8 → 8 ≤ s.rbc.urgent.length →
          (∀ e ∈ s.hoe.inflight, e.client ≠ q.client) →
          exec .associate s = .next (pullRefused q.client pulling (recordBecomes q.client pulling u))) ∧
        (8 ≤ s.hoe.inflight.length → PullWaits q (recordBecomes q.client { r with heard := heard } u)
          fun x => exec .associate s = .next x)) ∧
      (r.state = .releasing →
        (∀ (pre post : List TxFrame) (g : TxFrame) (since : Nat) (b : Option Binding) (l : List Nat),
          s.rbc.urgent = pre ++ g :: post → g.body = .ctxGrant q.client since b l →
          (∀ f ∈ pre, ∀ since b l, f.body ≠ .ctxGrant q.client since b l) →
          (∀ f ∈ pre ++ post ++ s.rbc.routine, f.tag ≠ g.tag) →
          exec .associate s = answer .accepted ((recordBecomes q.client active u).withRbc
            { s.rbc with urgent := pre ++ post })) ∧
        ((∀ f ∈ s.rbc.urgent, ∀ since b l, f.body ≠ .ctxGrant q.client since b l) →
          exec .associate s = .next (recordBecomes q.client { r with held := some q } u))))

/-- R30, R31, R48, R51, R52, R56, R57: the admission of a client without a record, both from the inbound queue and as the head of the
wait queue, GUEST or CLAIMANT. One from another station of the section begins in PULLING with its CTX_PULL on the URGENT queue; a
pull that is not taken replaces the client's waiting request, waits at the tail or is answered REFUSED_BUSY; one whose frames the RBC
refuses fails at once. R27, R28, R29, R52, R75: a wait queue head that meets a record of its client by then is admitted as a client
that has it; in a MUTED node that is done for a record in ACTIVE, OFFERING or STEERED, and any other head is answered REFUSED_MUTED.
The turn of the wait queue head is log entry 7. -/
def Obligations.PullStarts : Prop :=
  ∀ (q : AssocRequest) (s : State),
    (s.cfl.node = .joined → findRecord q.client s = none →
      ∀ (body : List Byte) (rest : List LinkRecord), RequestNext 64 body rest s → readAssociate body = some q →
        NewAdmitted false q (requestGone rest s) fun x => exec .associate s = .next x) ∧
    ∀ behind : List AssocRequest, s.hoe.waitQueue = q :: behind → s.hoe.inflight.length < 8 → LaneFree 1 s →
      let u := s.withHoe { s.hoe with waitQueue := behind }
      let ends (x : State) : Prop := exec .waitQueueHead s = .next x
      let muted : Prop := ends (astPlace (.assocResult q.client .refusedMuted none none []) u)
      (findRecord q.client s = none →
        (s.cfl.node = .joined → NewAdmitted true q u ends) ∧ (s.cfl.node = .muted → muted)) ∧
      ∀ r, findRecord q.client s = some r → (s.ast.records.map Record.client).Nodup →
        let served : Prop := r.state = .active ∨ r.state = .offering ∨ r.state = .steered
        (s.cfl.node = .joined ∨ (s.cfl.node = .muted ∧ served) → KnownAdmitted true q r u ends) ∧
        (s.cfl.node = .muted → ¬ served → muted)

/-- R53: a DEPART for a client with no record removes its request from the wait queue, unanswered, if one waits there. -/
def Obligations.DepartWithdrawsWaiting : Prop :=
  ∀ (body : List Byte) (client : Nat) (rest : List LinkRecord) (s : State), RequestNext 66 body rest s →
    readDepart body = some client → findRecord client s = none →
    exec .depart s = .next ((requestGone rest s).withHoe
      { s.hoe with waitQueue := s.hoe.waitQueue.filter fun w => w.client ≠ client }) ∧
    ((∀ w ∈ s.hoe.waitQueue, w.client ≠ client) → exec .depart s = .next (requestGone rest s))

/-- R37, R38, R35, R36, R73, R108: which events remove a record, by its state and its timers, and what the baseband is
told. -/
def Obligations.RecordRemoved : Prop :=
  ∀ (r : Record) (s : State), findRecord r.client s = some r → r.subs.Nodup →
    let gone (u : State) : State := recompute (recordGone r u)
    let free : Prop := s.rsl.lane.length < 64 ∧ s.hoe.backlog = [] ∧ s.cku.backlog = [] ∧ s.rsl.astBacklog = []
    (∀ (body : List Byte) (rest : List LinkRecord), RequestNext 66 body rest s → readDepart body = some r.client →
      (r.state = .active ∨ r.state = .offering ∨ r.state = .steered ∨ r.state = .pulling →
        exec .depart s = .next (gone (requestGone rest s))) ∧
      (r.state = .expected ∨ r.state = .releasing → exec .depart s = .next (requestGone rest s))) ∧
    (r.idle.isSome → free →
      exec (.idleTimerExpiry r.client) s = .next (placeOnLane (.dropClient r.client .idle) (gone s))) ∧
    (r.idle.isSome → 64 ≤ s.rsl.lane.length →
      ∃ t, exec (.idleTimerExpiry r.client) s = .next t ∧
        t.rsl = { s.rsl with astBacklog := s.rsl.astBacklog ++ [.dropClient r.client .idle] } ∧
        t = (gone s).withRsl t.rsl) ∧
    (r.timer = some .claimant → free →
      exec (.claimantTimerExpiry r.client) s =
        .next (placeOnLane (.dropClient r.client .unverifiedSeat) (gone s))) ∧
    (r.timer = some .expectation → exec (.expectationHoldExpiry r.client) s = .next (gone s))

/-- R42, R43, R124, R125, R35: the results of SUBSCRIBE and UNSUBSCRIBE, by the first check that fails, with the list, the
stream's count and the idle timer; and R123: what a gained and a lost subscriber make of a stream. -/
def Obligations.SubscriptionsAnswered : Prop :=
  (∀ (body : List Byte) (client stream : Nat) (rest : List LinkRecord) (s : State),
    readSubscribe body = some (client, stream) →
    (s.ast.records.map Record.client).Nodup →
    let u := requestGone rest s
    let answer (code : SubscribeCode) (x : State) : Host.Outcome State Fault Refusal :=
      .next (placeOnLane (.subscribeResult client stream code) x)
    let served (r : Record) : Prop := r.state = .active ∨ r.state = .offering ∨ r.state = .steered
    let counted (f : Stream → Stream) (x : State) : State :=
      x.withRpc { s.rpc with streams := s.rpc.streams.map fun st => if st.id = stream then f st else st }
    (findRecord client s = none →
      (RequestNext 68 body rest s → exec .subscribe s = answer .notAssociated u) ∧
      (RequestNext 69 body rest s → exec .unsubscribe s = answer .notAssociated u)) ∧
    ∀ r, findRecord client s = some r →
      let r' : Record := { r with idle := some 120000 }
      (RequestNext 68 body rest s →
        (¬ served r → exec .subscribe s = answer .notAssociated u) ∧
        (r.state = .offering ∨ r.state = .steered →
          exec .subscribe s = answer .notAssociated (recordBecomes client r' u)) ∧
        (r.state = .active →
          (findStream stream s = none → exec .subscribe s = answer .unknownStream (recordBecomes client r' u)) ∧
          ∀ st, findStream stream s = some st →
            (st.withdrawn = true → exec .subscribe s = answer .streamEnding (recordBecomes client r' u)) ∧
            (st.withdrawn = false →
              (stream ∈ r.subs → exec .subscribe s = answer .already (recordBecomes client r' u)) ∧
              (stream ∉ r.subs → 4 ≤ r.subs.length →
                exec .subscribe s = answer .listFull (recordBecomes client r' u)) ∧
              (stream ∉ r.subs → r.subs.length < 4 →
                exec .subscribe s = answer .subscribed
                  (counted (Stream.gained s.sck.time (slotsInForce stream s))
                    (recordBecomes client { r' with subs := r.subs ++ [stream] } u)))))) ∧
      (RequestNext 69 body rest s →
        (¬ served r → exec .unsubscribe s = answer .notAssociated u) ∧
        (served r → stream ∉ r.subs → exec .unsubscribe s = answer .notSubscribed (recordBecomes client r' u)) ∧
        (served r → stream ∈ r.subs →
          exec .unsubscribe s = answer .unsubscribed
            (counted Stream.lost
              (recordBecomes client { r' with subs := r.subs.filter fun x => x ≠ stream } u))))) ∧
  ∀ (now slots : Nat) (st : Stream),
    ((st.gained now slots).subscribers = st.subscribers + 1 ∧ (st.gained now slots).cursor = st.cursor ∧
      (st.gained now slots).withdrawn = st.withdrawn ∧
      (st.gained now slots).state = (match st.state with
        | .idle => .wanted
        | .draining => if st.withdrawn = true then .draining else if slots = 0 then .starved else .live
        | x => x) ∧
      (st.gained now slots).wantedSince = (if st.state = .idle then some now else st.wantedSince)) ∧
    (0 < st.subscribers →
      st.lost.subscribers = st.subscribers - 1 ∧ st.lost.cursor = st.cursor ∧ st.lost.withdrawn = st.withdrawn ∧
      (1 < st.subscribers → st.lost.state = st.state ∧ st.lost.wantedSince = st.wantedSince) ∧
      (st.subscribers = 1 → st.cursor.current.isSome → st.lost.wantedSince = st.wantedSince ∧
        st.lost.state = if st.state = .idle then .idle else .draining) ∧
      (st.subscribers = 1 → st.cursor.current = none →
        (st.state = .wanted ∨ st.state = .live ∨ st.state = .starved →
          st.lost.state = .idle ∧ st.lost.wantedSince = none)))

/-- R22, R44, R46, R98: no step breaks the bounds of the association table, makes a second record for a client, or makes a
record before the node is JOINED. -/
def Obligations.TableInvKept : Prop :=
  ∀ s t : State, TableInv s → step s = .next t → TableInv t

/-- R26, R84: no step leaves a HOME record without its ground, a seat of the block CHECKED_IN by its client. R76, R83: no
step puts one ticket number on two seats of the block. -/
def Obligations.SeatInvariantsKept : Prop :=
  ∀ s t : State, step s = .next t →
    (TableInv s → HomeInv s → HomeInv t) ∧ (TicketInv s → TicketInv t)

/-- R16, R47, R50, R51, R103, R112, R116, R127, R168, R180, R184, R185: no step makes a queue, list, table, lane or backlog grow beyond
its capacity: the transmit queues, the inbound queue, both lanes, the in-flight list, the wait queue, the claims, the stream table
with its end reports, the segment cache, the neighbour table (30 entries, none for the node's own address) and the three result
backlogs (8, 16 and 320); and no step makes two entries of one table for one key, or a second advert that waits (R169). The
association table's bound is TableInvKept. -/
def Obligations.CapacityInvKept : Prop :=
  ∀ s t : State, step s = .next t →
    (CapacityInv s → CapacityInv t) ∧ (KeysInv s → KeysInv t) ∧
      (CapacityInv s → NeighbourInv s → NeighbourInv t) ∧
      (TableInv s → HandoffInv s → BacklogInv s → BacklogInv t)

/-- R25, R47: every step leaves one in-flight entry for each PULLING and OFFERING record, and no other. -/
def Obligations.HandoffInvKept : Prop :=
  ∀ s t : State, TableInv s → HandoffInv s → step s = .next t → HandoffInv t


/-! ## Handoff (03) -/

/-- R29, R60, R61, R62, R63, R55, R168: what a JOINED node answers to a CTX_PULL, by the record it holds; in any other state the frame
is ignored. A grant that finds the URGENT queue full ends at once, and its record goes; any other answer that finds it full is lost.
R29: the retry of a pull whose grant has been withdrawn meets CTX_NONE; that it is known by its station and since-time is the model's
choice (log entry 25). A CTX_PULL to all stations is log entry 20. -/
def Obligations.CtxPullDecided : Prop :=
  ∀ (source client since : Nat) (f : BusFrame) (s : State), FrameTaken 2 source f s →
    readPull f.payload = some (client, since) → TableInv s →
    let u := carrierEnded s
    let answers (body : OutFrame) (x : State) : Prop := exec (.ctxPull f) s = .next (urgentOffered source body x)
    (s.cfl.node ≠ .joined → exec (.ctxPull f) s = .next u) ∧
    (s.cfl.node = .joined →
      (findRecord client s = none → answers (.ctxNone client) u) ∧
      ∀ r, findRecord client s = some r →
        (r.state = .releasing → answers (.ctxNone client) u) ∧
        (r.state = .expected → answers (.ctxNone client) (recompute (recordGone r u))) ∧
        (r.state = .pulling → since ≤ r.since → answers (.ctxHeld client) u) ∧
        (r.state = .pulling → r.since < since →
          answers (.ctxNone client)
            (raise .contextLost (hoePlace (.dropClient client .moved) (recompute (recordGone r u))))) ∧
        (r.state = .active ∨ r.state = .offering ∨ r.state = .steered →
          let pull : Pull := { station := source, since := since }
          (pull ∈ r.granted → answers (.ctxNone client) u) ∧
          (pull ∉ r.granted → s.sck.phase ≠ .unknown → since ≤ r.since → answers (.ctxHeld client) u) ∧
          (pull ∉ r.granted → s.sck.phase = .unknown ∨ r.since < since →
            let v := if r.state = .offering then inflightGone client u else u
            let granted : Record :=
              { r with state := .releasing, peer := some source, idle := none, timer := none,
                       granted := (r.granted.filter fun x => x.station ≠ source) ++ [pull] }
            (v.rbc.urgent.length < 8 →
              answers (.ctxGrant client r.since r.binding r.subs) (recordBecomes client granted v)) ∧
            (8 ≤ v.rbc.urgent.length → exec (.ctxPull f) s = .next (raise .contextLost (recompute (recordGone granted
              ((recordBecomes client granted v).withRbc
                { v.rbc with txDrops := min 65535 (v.rbc.txDrops + 1) }))))))))

/-- R58, R44, R33, R26: a CTX_GRANT that matches a pull makes the record ACTIVE with the context granted, and one that matches
none is ignored. The streams kept are those in the stream table, the others are named in the answer. A record's ground as HOME is a
seat of the node's block whose entry is CHECKED_IN by its client. The model's choices: a stream id that the grant repeats counts
once (log entry 12), a grant to all stations is taken (log entry 20), and a derivation that leaves the class as it was makes no
recompute (log entry 22). -/
def Obligations.GrantInstallsContext : Prop :=
  (∀ (c : NodeConfig) (client seat : Nat) (s : State), s.cfl.config = some c →
    (checkedInBy client seat s = true ↔ c.firstSeat ≤ seat ∧ seat < c.firstSeat + c.seatCount ∧
      ∃ e, s.ens.seats[seat - c.firstSeat]? = some e ∧ ∃ t time, e.standing = .checkedIn t client time)) ∧
  ∀ (source : Nat) (g : GrantPayload) (e : Inflight) (r : Record) (f : BusFrame) (s : State),
    FrameTaken 3 source f s → readGrant f.payload = some g →
    (ReplyIgnored .pull source g.client s → exec (.ctxGrant f) s = .next (carrierEnded s)) ∧
    (s.cfl.node = .joined ∨ s.cfl.node = .muted → EntryMatches .pull source g.client e s →
      findRecord g.client s = some r → r.state = .pulling → (s.ast.records.map Record.client).Nodup →
      (s.rpc.streams.map Stream.id).Nodup →
      ∃ (kept dropped : List Nat) (r' : Record),
        (∀ id, id ∈ kept ↔ id ∈ g.streams ∧ ∃ st ∈ s.rpc.streams, st.id = id) ∧ kept.Nodup ∧
        kept.Sublist g.streams ∧
        (∀ id, id ∈ dropped ↔ id ∈ g.streams ∧ ∀ st ∈ s.rpc.streams, st.id ≠ id) ∧ dropped.Nodup ∧
        dropped.Sublist g.streams ∧
        (let b := if g.binding.isSome then g.binding else r.binding
          let ground : Prop := ∃ x, b = some x ∧ checkedInBy g.client x.seat s = true
          r' = { r with state := .active, since := g.since, binding := b, subs := kept, peer := none,
                        idle := some 120000, cls := r'.cls, timer := r'.timer } ∧
          (ground → r'.cls = .home ∧
            r'.timer = if r.cls ≠ .home ∧ r.timer = some .claimant then none else r.timer) ∧
          (¬ ground → r.cls = .home → r'.cls = .claimant ∧ r'.timer = some .claimant) ∧
          (¬ ground → r.cls ≠ .home → r'.cls = r.cls ∧ r'.timer = r.timer)) ∧
        (let x := recordBecomes g.client r' (inflightGone g.client (carrierEnded s))
          let y := x.withRpc { x.rpc with streams := x.rpc.streams.map fun st =>
            if st.id ∈ kept then st.gained s.sck.time (slotsInForce st.id s) else st }
          exec (.ctxGrant f) s = .next
            (hoePlace (.assocResult g.client .acceptedWithContext (some r'.cls) none dropped)
              (if r'.cls = r.cls then y else recompute y))))

/-- R59, R54, R55: a CTX_NONE that matches a pull ends it with a fresh context, a CTX_HELD removes the record, and one that
matches no pull is ignored. A reply to all stations is log entry 20. -/
def Obligations.PullRepliesTaken : Prop :=
  ∀ (source client : Nat) (e : Inflight) (r : Record) (f : BusFrame) (s : State),
    TableInv s → readClient f.payload = some client →
    (ReplyIgnored .pull source client s →
      (FrameTaken 4 source f s → exec (.ctxNone f) s = .next (carrierEnded s)) ∧
      (FrameTaken 5 source f s → exec (.ctxHeld f) s = .next (carrierEnded s))) ∧
    (s.cfl.node = .joined ∨ s.cfl.node = .muted → EntryMatches .pull source client e s →
      findRecord client s = some r →
      (FrameTaken 4 source f s →
        exec (.ctxNone f) s = .next (hoePlace (.assocResult client .acceptedFresh (some r.cls) none [])
          (recordBecomes client { r with state := .active, peer := none, idle := some 120000 }
            (inflightGone client (carrierEnded s))))) ∧
      (FrameTaken 5 source f s → r.state = .pulling →
        exec (.ctxHeld f) s = .next (hoePlace (.assocResult client .refusedHeldElsewhere none none [])
          (recompute (recordGone r (carrierEnded s))))))

/-- R57, R69, R48, R168: at the response timeout of a pull's first attempt the second one is queued, the unstarted first frame
withdrawn; where no frame is accepted, and at the second attempt's timeout, the pull ends with a fresh context and
CONTEXT_LOST. A JOINED node's full URGENT queue refuses the second frame, and the refusal is counted. Where the first frame still
waits in the full queue, the RBC takes the offer or the withdrawal first, as the free value `Config.secondPullOfferedFirst` says (log
entry 11): the offer is refused, or it finds the place that the withdrawal has freed. An offer's timeout returns the record to ACTIVE. -/
def Obligations.ResponseTimeouts : Prop :=
  ∀ (client d : Nat) (e : Inflight) (r : Record) (s : State), findInflight client s = some e → e.timer = some d →
    findRecord client s = some r → (s.ast.records.map Record.client).Nodup →
    (s.hoe.inflight.map Inflight.client).Nodup →
    let fails : Host.Outcome State Fault Refusal := .next (pullFailed client r s)
    (e.kind = .pull → e.attempt = 1 → s.cfl.node = .joined → (∀ g ∈ s.rbc.routine, g.tag ≠ e.tag) →
      let waiting := if e.frame = .queued then s.rbc.urgent.filter (fun g => g.tag ≠ e.tag) else s.rbc.urgent
      let accepted : State := (s.withRbc { s.rbc with
          urgent := waiting ++ [{ tag := s.rbc.nextTag, dest := e.peer, body := .ctxPull client r.since 2 }]
          nextTag := s.rbc.nextTag + 1 }).withHoe
        { s.hoe with inflight := s.hoe.inflight.map fun x =>
            if x.client = client then
              { e with attempt := 2, frame := .queued, tag := s.rbc.nextTag, timer := some 400 }
            else x }
      let refused := pullFailed client r (s.withRbc { s.rbc with txDrops := min 65535 (s.rbc.txDrops + 1) })
      (s.rbc.urgent.length < 8 → exec (.pullResponseTimeout client) s = .next accepted) ∧
      (8 ≤ s.rbc.urgent.length → waiting.length < 8 → exec (.pullResponseTimeout client) s =
        .next (if Config.secondPullOfferedFirst then refused else accepted)) ∧
      (8 ≤ waiting.length → exec (.pullResponseTimeout client) s = .next refused)) ∧
    (e.kind = .pull → e.attempt = 1 → s.cfl.node = .muted → exec (.pullResponseTimeout client) s = fails) ∧
    (e.kind = .pull → e.attempt = 2 → exec (.pullResponseTimeout client) s = fails) ∧
    (e.kind = .offer → exec (.offerResponseTimeout client) s = .next
      (recordBecomes client { r with state := .active, peer := none } (inflightGone client s)))

/-- R71, R72, R5, R55: a STEER_OFFER is declined by the first check that fails, and else accepted with a record in EXPECTED
that reserves the place; only a JOINED node decides one. An offer to all stations is log entry 20. -/
def Obligations.OfferDecided : Prop :=
  ∀ (source client : Nat) (seat : Option Nat) (c : NodeConfig) (f : BusFrame) (s : State), FrameTaken 6 source f s →
    readOffer f.payload = some (client, seat) → s.cfl.config = some c →
    let u := carrierEnded s
    let bound : Option Binding := seat.bind fun q =>
      match (seatEntry q s).map SeatEntry.standing with
      | some (.checkedIn t holder _) => if holder = client then some { ticket := t.number, seat := q } else none
      | _ => none
    let load := (c.clientWeight * ((s.ast.records.length + 1) * 1600 / c.capacity) +
      (16 - c.clientWeight) * (s.assigned * 1600 / c.slots)) / 16
    let more : Int := if 3647 < load then 2047 else (load : Int) - 1600
    let loaded : Prop := 160 ≤ s.ast.records.length ∨ s.prm.monitor ≠ .normal ∨ c.high ≤ more ∨
      (bound = none ∧ c.capacity ≤ s.guests)
    (s.cfl.node ≠ .joined → exec (.steerOffer f) s = .next u) ∧
    (s.cfl.node = .joined →
      ((findRecord client s).isSome →
        exec (.steerOffer f) s = .next (urgentOffered source (.steerDecline client .already) u)) ∧
      (findRecord client s = none → loaded →
        exec (.steerOffer f) s = .next (urgentOffered source (.steerDecline client .load) u)) ∧
      (findRecord client s = none → ¬ loaded →
        exec (.steerOffer f) s = .next (urgentOffered source (.steerAccept client)
          (recompute (u.withAst { s.ast with records := s.ast.records ++
            [{ client := client, state := .expected, cls := if bound.isSome then .home else .guest,
               since := s.sck.time, heard := [], binding := bound, subs := [], badCodes := 0, peer := some source,
               timer := some .expectation, idle := none, held := none,
               granted := [] }] })))))

/-- R67, R68, R70, R19, R45: a STEER_ACCEPT that matches makes the record STEERED and sends the directive; a STEER_DECLINE sets
the decline hold on its sender in every case and ends a matching offer; at the steer hold's expiry the record is ACTIVE
again and a steer failure is counted. A reply to all stations is log entry 20. -/
def Obligations.SteerRepliesTaken : Prop :=
  ∀ (source client : Nat) (e : Inflight) (r : Record) (f : BusFrame) (s : State),
    (s.ast.records.map Record.client).Nodup →
    let u := carrierEnded s
    let held : State := u.withNbt (s.nbt.map fun x => if x.station = source then { x with declineHold := some 2000 } else x)
    (FrameTaken 7 source f s → readClient f.payload = some client → ReplyIgnored .offer source client s →
      exec (.steerAccept f) s = .next u) ∧
    (FrameTaken 8 source f s → readDecline f.payload = some client → s.cfl.node = .joined ∨ s.cfl.node = .muted →
      (∀ x, ¬ EntryMatches .offer source client x s) → exec (.steerDecline f) s = .next held) ∧
    (FrameTaken 8 source f s → s.cfl.node ≠ .joined → s.cfl.node ≠ .muted → exec (.steerDecline f) s = .next u) ∧
    (s.cfl.node = .joined ∨ s.cfl.node = .muted → EntryMatches .offer source client e s →
      findRecord client s = some r →
      (FrameTaken 7 source f s → readClient f.payload = some client →
        exec (.steerAccept f) s = .next (hoePlace (.steerDirective client source)
          (recordBecomes client { r with state := .steered, timer := some .steer } (inflightGone client u)))) ∧
      (FrameTaken 8 source f s → readDecline f.payload = some client →
        exec (.steerDecline f) s = .next
          (recordBecomes client { r with state := .active, peer := none } (inflightGone client held)))) ∧
    (findRecord client s = some r → r.timer = some .steer →
      exec (.steerHoldExpiry client) s = .next
        (recordBecomes client { r with state := .active, peer := none, timer := none }
          (s.withAst { s.ast with steerFailures := min 65535 (s.ast.steerFailures + 1) })))

/-! ## Ticket check-in (05) -/

/-- R99, R100, R101, R102, R39, R113, R114, R168: a presentation for a seat of the block is settled by the seat entry: the entry's
new state or duplicate count, the CHECKIN_NOTE or INCIDENT, the result, and what becomes of the record's class. The note or incident
is offered to the ROUTINE queue: a full queue refuses it, and a MUTED node queues none. That a record which was HOME already makes no
recompute is log entry 22. -/
def Obligations.PresentationDecided : Prop :=
  ∀ (c : NodeConfig) (r : Record) (p : Presentation) (body : List Byte) (rest : List LinkRecord) (index : Nat)
    (e : SeatEntry) (s : State),
    PresentationNext c r p body rest s → ChecksPassed c r p s → TableInv s →
    seatIndex p.seat s = some index → s.ens.seats[index]? = some e →
    let r' : Record := { r with idle := some 120000 }
    let u := recordBecomes p.client r' (requestGone rest s)
    let entry (x : SeatEntry) : State := u.withEns { s.ens with seats := s.ens.seats.set index x }
    let result (code : CheckinCode) (n : Nat) (x : State) : State :=
      placeOnLane (.checkinResult p.client p.ticket p.seat code c.station n) x
    let presented (t : Ticket) : Prop := t.number = p.ticket ∧ t.serial = p.serial
    let admitted (x : State) : Prop :=
      let y := recordBecomes p.client
        { r' with cls := .home, binding := some { ticket := p.ticket, seat := p.seat },
                  timer := if r.timer = some .claimant then none else r.timer } (result .admitted 0 x)
      exec .presentTicket s = .next (if r.cls = .home then y else recompute y)
    let refused (code : CheckinCode) (n : Nat) (x : State) : Prop :=
      exec .presentTicket s = .next (fellBack r' (result code n x))
    (e.standing = .empty → refused .unknownSeat 0 u) ∧
    (∀ t, e.standing = .void t → refused .voided 0 u) ∧
    (∀ t, e.standing = .issued t →
      (¬ presented t → refused .notCurrent 0 u) ∧
      (presented t → admitted (routineOffered 0 (.checkinNote p.seat p.ticket p.client s.sck.time)
        (entry { e with standing := .checkedIn t p.client s.sck.time })))) ∧
    (∀ t holder time, e.standing = .checkedIn t holder time →
      (¬ presented t → refused .notCurrent 0 u) ∧
      (presented t → holder = p.client → admitted u) ∧
      (presented t → holder ≠ p.client →
        refused .duplicate (min 15 (e.duplicates + 1))
          (routineOffered 0 (.incident p.seat p.ticket holder p.client)
            (raise .duplicate (entry { e with duplicates := min 15 (e.duplicates + 1) })))))

/-- R95, R96, R98, R102, R111: the refusals that no seat entry decides: the answer of the first check that fails, with the
bad-code count and what becomes of a CLAIMANT; the answer to a client that is not ACTIVE. -/
def Obligations.PresentationRefused : Prop :=
  ∀ (p : Presentation) (body : List Byte) (rest : List LinkRecord) (s : State),
    (∀ (c : NodeConfig) (r : Record), PresentationNext c r p body rest s → TableInv s →
      let r' : Record := { r with idle := some 120000 }
      let u := requestGone rest s
      let refused (code : CheckinCode) (x : Record) : Prop :=
        exec .presentTicket s = .next (fellBack x
          (placeOnLane (.checkinResult p.client p.ticket p.seat code c.station 0) (recordBecomes p.client x u)))
      ((findClaim p.client s).isSome → refused .busy r') ∧
      (findClaim p.client s = none →
        (r.badCodes = 4 → refused .lockedOut r') ∧
        (r.badCodes ≠ 4 → p.sectionId ≠ c.sectionId → refused .wrongSection r') ∧
        (r.badCodes < 4 → p.sectionId = c.sectionId → ¬ CodeRight c p →
          refused .badCode { r' with badCodes := r.badCodes + 1 })) ∧
      (ChecksPassed c r p s → seatIndex p.seat s = none →
        (p.seat = 0 ∨ 4095 < p.seat ∨ ownerOf p.seat s = none → refused .noOwner r') ∧
        (∀ a, 1 ≤ p.seat → p.seat ≤ 4095 → ownerOf p.seat s = some a → 8 ≤ s.cku.claims.length →
          refused .busy r'))) ∧
    ∀ c : NodeConfig, RequestNext 67 body rest s → readPresent body = some p → s.cfl.config = some c →
      (s.ast.records.map Record.client).Nodup →
      let result (x : State) : Host.Outcome State Fault Refusal :=
        .next (placeOnLane (.checkinResult p.client p.ticket p.seat .notAssociated c.station 0) x)
      (findRecord p.client s = none → exec .presentTicket s = result (requestGone rest s)) ∧
      ∀ r, findRecord p.client s = some r →
        (r.state = .offering ∨ r.state = .steered → exec .presentTicket s =
          result (recordBecomes p.client { r with idle := some 120000 } (requestGone rest s))) ∧
        (r.state = .pulling ∨ r.state = .expected ∨ r.state = .releasing →
          exec .presentTicket s = result (requestGone rest s))

/-- R104, R105, R114: a presentation for a seat of a peer becomes a remote claim with no answer yet; where its frame is not
accepted it is answered OWNER_SILENT at once, with no pending entry. -/
def Obligations.RemoteClaimStarted : Prop :=
  ∀ (c : NodeConfig) (r : Record) (p : Presentation) (body : List Byte) (rest : List LinkRecord) (a : Nat) (s : State),
    PresentationNext c r p body rest s → TableInv s → ChecksPassed c r p s → seatIndex p.seat s = none → 1 ≤ p.seat →
    p.seat ≤ 4095 → ownerOf p.seat s = some a → s.cku.claims.length < 8 →
    let r' : Record := { r with idle := some 120000 }
    let u := recordBecomes p.client r' (requestGone rest s)
    let silent (x : State) : Prop :=
      exec .presentTicket s =
        .next (fellBack r' (placeOnLane (.checkinResult p.client p.ticket p.seat .ownerSilent a 0) x))
    (s.cfl.node = .joined → s.rbc.urgent.length < 8 →
      exec .presentTicket s = .next
        ((urgentSent a (.checkinClaim p.client p.ticket p.seat p.serial p.tier) u).withCku
          { s.cku with claims := s.cku.claims ++
            [{ client := p.client, ticket := p.ticket, seat := p.seat, owner := a, frame := .queued,
               tag := s.rbc.nextTag, timer := some 1500 }] })) ∧
    (s.cfl.node = .joined → 8 ≤ s.rbc.urgent.length →
      silent (u.withRbc { s.rbc with txDrops := min 65535 (s.rbc.txDrops + 1) })) ∧
    (s.cfl.node = .muted → silent u)

/-- R109, R99, R100, R101, R110: the owner decides a CHECKIN_CLAIM addressed to itself alone, writes the seat entry, queues the
note or the incident and then the verdict; its association table is not touched. What finds its queue full is lost and counted
(R168). In any other node state, and for a claim to all stations, nothing is decided. -/
def Obligations.CheckinClaimDecided : Prop :=
  ∀ (source : Nat) (p : ClaimPayload) (f : BusFrame) (s : State), FrameTaken 9 source f s →
    readClaim f.payload = some p →
    let u := carrierEnded s
    let verdict (v : Verdict) (n : Nat) (x : State) : Prop :=
      exec (.checkinClaim f) s = .next (urgentOffered source (.checkinVerdict p.client p.ticket p.seat v n) x)
    (s.cfl.node ≠ .joined ∨ f.dest.toNat ≠ s.station → exec (.checkinClaim f) s = .next u) ∧
    (s.cfl.node = .joined → f.dest.toNat = s.station →
      (seatEntry p.seat s = none → verdict .noOwner 0 u) ∧
      ∀ index, seatIndex p.seat s = some index → ∀ e, s.ens.seats[index]? = some e →
        let entry (x : SeatEntry) : State := u.withEns { s.ens with seats := s.ens.seats.set index x }
        let presented (t : Ticket) : Prop := t.number = p.ticket ∧ t.serial = p.serial
        (e.standing = .empty → verdict .unknownSeat 0 u) ∧
        (∀ t, e.standing = .void t → verdict .voided 0 u) ∧
        (∀ t, e.standing = .issued t →
          (¬ presented t → verdict .notCurrent 0 u) ∧
          (presented t → verdict .admitted 0 (routineOffered 0 (.checkinNote p.seat p.ticket p.client s.sck.time)
            (entry { e with standing := .checkedIn t p.client s.sck.time })))) ∧
        (∀ t holder time, e.standing = .checkedIn t holder time →
          (¬ presented t → verdict .notCurrent 0 u) ∧
          (presented t → holder = p.client → verdict .admitted 0 u) ∧
          (presented t → holder ≠ p.client →
            verdict .duplicate (min 15 (e.duplicates + 1))
              (routineOffered 0 (.incident p.seat p.ticket holder p.client)
                (raise .duplicate (entry { e with duplicates := min 15 (e.duplicates + 1) }))))))

/-- R106, R107, R55: a verdict that matches the pending claim, or the claim timer's expiry, ends the claim: the result goes
to a record in ACTIVE, OFFERING or STEERED with the owner station, an ADMITTED sets the binding, from which the class is derived
(R26), and a CLAIMANT falls back. A claim of any other record ends unanswered. A verdict that matches no pending claim is ignored, whether the client has
another one or none; with none its claim timer's expiry changes nothing (log entry 1). The
model's choices: that the claim of a record in EXPECTED or PULLING, which no run has, ends unanswered is log entry 21, that a verdict
to all stations is taken is log entry 20, and that only a real change of class recomputes is log entry 22. -/
def Obligations.ClaimEnds : Prop :=
  ∀ (source : Nat) (v : VerdictPayload) (f : BusFrame) (s : State), TableInv s →
    let hears : Prop := FrameTaken 10 source f s ∧ readVerdict f.payload = some v
    (findClaim v.client s = none →
      (hears → exec (.checkinVerdict f) s = .next (carrierEnded s)) ∧ exec (.claimTimerExpiry v.client) s = .next s) ∧
    ∀ k, findClaim v.client s = some k →
    let matching : Prop := k.owner = source ∧ k.seat = v.seat ∧ k.ticket = v.ticket
    let gone (x : State) : State := claimGone v.client x
    let place (code : CheckinCode) (n : Nat) (x : State) : State :=
      ckuPlace (.checkinResult v.client k.ticket k.seat code k.owner n) x
    let n := if v.result = .duplicate then v.duplicates else 0
    let code : CheckinCode := match v.result with
      | .admitted => .admitted | .unknownSeat => .unknownSeat | .voided => .voided | .notCurrent => .notCurrent
      | .duplicate => .duplicate | .noOwner => .noOwner
    (hears → (s.cfl.node = .joined ∨ s.cfl.node = .muted) → ¬ matching →
      exec (.checkinVerdict f) s = .next (carrierEnded s)) ∧
    (hears → s.cfl.node ≠ .joined → s.cfl.node ≠ .muted → exec (.checkinVerdict f) s = .next (carrierEnded s)) ∧
    (hears → (s.cfl.node = .joined ∨ s.cfl.node = .muted) → matching →
      (findRecord v.client s = none → exec (.checkinVerdict f) s = .next (gone (carrierEnded s))) ∧
      ∀ r, findRecord v.client s = some r →
        (r.state = .expected ∨ r.state = .pulling ∨ r.state = .releasing →
          exec (.checkinVerdict f) s = .next (gone (carrierEnded s))) ∧
        (r.state = .active ∨ r.state = .offering ∨ r.state = .steered →
          (v.result ≠ .admitted →
            exec (.checkinVerdict f) s = .next (fellBack r (place code n (gone (carrierEnded s))))) ∧
          (v.result = .admitted → checkedInBy v.client k.seat s = false →
            let r' : Record := { r with binding := some { ticket := k.ticket, seat := k.seat } }
            let x := place .admitted 0 (gone (carrierEnded s))
            let r'' : Record := { r' with cls := .claimant, timer := if r.state = .active then some .claimant else r.timer }
            exec (.checkinVerdict f) s = .next
              (if r.cls = .home then fellBack r'' (recompute (recordBecomes v.client r'' x))
                else fellBack r' (recordBecomes v.client r' x))) ∧
          (v.result = .admitted → checkedInBy v.client k.seat s = true →
            let r' : Record := { r with cls := .home, binding := some { ticket := k.ticket, seat := k.seat },
                                        timer := if r.cls ≠ .home ∧ r.timer = some .claimant then none else r.timer }
            let x := recordBecomes v.client r' (place .admitted 0 (gone (carrierEnded s)))
            exec (.checkinVerdict f) s = .next (if r.cls = .home then x else recompute x)))) ∧
    (k.timer.isSome →
      (findRecord v.client s = none → exec (.claimTimerExpiry v.client) s = .next (gone s)) ∧
      ∀ r, findRecord v.client s = some r →
        (r.state = .expected ∨ r.state = .pulling ∨ r.state = .releasing →
          exec (.claimTimerExpiry v.client) s = .next (gone s)) ∧
        (r.state = .active ∨ r.state = .offering ∨ r.state = .steered →
          exec (.claimTimerExpiry v.client) s = .next (fellBack r (place .ownerSilent 0 (gone s)))))

/-! ## Seat entitlements (04) -/

/-- R79, R81, R82, R78: an ENTITLEMENT frame for a seat outside the block has no effect; ISSUE, REISSUE, VOID and
CLEAR_CHECKIN for a frozen group are refused and counted with FROZEN_UPDATE, and else one whose revision is not newer is
counted stale. The action byte is that of the command's row (log entry 16). -/
def Obligations.EntitlementRefused : Prop :=
  ∀ (i : Instr) (code : Byte) (source : Nat) (f : BusFrame) (s : State),
    let u := carrierEnded s
    ((i = .issue f ∧ code = 0) ∨ (i = .reissue f ∧ code = 1) ∨ (i = .void f ∧ code = 2) ∨
      (i = .clearCheckin f ∧ code = 3) ∨ (i = .resyncFill f ∧ code = 4)) →
    (∀ a, readEntitlement (withAction code f).payload = some a → FrameTaken 33 source (withAction code f) s →
      seatIndex a.seat s = none → exec i s = .next u) ∧
    (∀ (c : NodeConfig) (index : Nat) (e : SeatEntry) (a : Entitlement), UpdateNext code source f c index e a s →
      code ≠ 4 →
      (GroupFrozen c index s → exec i s = .next ((u.withEns
        { s.ens with frozenRefusals := min 65535 (s.ens.frozenRefusals + 1) }).withNtu (s.ntu.occur .frozenUpdate))) ∧
      (¬ GroupFrozen c index s → a.revision ≤ e.revision → exec i s = .next (u.withEns
        { s.ens with staleUpdates := min 65535 (s.ens.staleUpdates + 1) })))

/-- R85, R86, R83, R84: an ISSUE or a REISSUE in an open group with a newer revision gives the seat its ticket, with a notice
where the seat held one; a ticket held on another seat is released there first, or refuses the frame where that seat is
frozen. The action byte is that of the command's row (log entry 16). -/
def Obligations.IssuePlacesTicket : Prop :=
  ∀ (i : Instr) (code : Byte) (source : Nat) (f : BusFrame) (c : NodeConfig) (index : Nat) (e : SeatEntry)
    (a : Entitlement) (s : State),
    (i = .issue f ∧ code = 0) ∨ (i = .reissue f ∧ code = 1) → UpdateNext code source f c index e a s →
    UpdateOpen c index e a s →
    let u := carrierEnded s
    let issued : SeatEntry := { standing := .issued a.ticket, revision := a.revision, duplicates := 0 }
    let held : Prop := e.standing ≠ .empty ∧ ∀ t, e.standing ≠ .void t
    let placed (x : State) : Prop :=
      (held → exec i s = .next (raise .ticketReissued (seatBecomes c index e issued x))) ∧
      (¬ held → exec i s = .next (seatBecomes c index e issued x))
    (TicketFree index a.ticket.number s → placed u) ∧
    (∀ (j : Nat) (e' : SeatEntry), TicketAt j index a.ticket.number e' s →
      (GroupFrozen c j s → exec i s = .next ((u.withEns
        { s.ens with frozenRefusals := min 65535 (s.ens.frozenRefusals + 1) }).withNtu (s.ntu.occur .frozenUpdate))) ∧
      (¬ GroupFrozen c j s →
        placed (seatBecomes c j e' { standing := .empty, revision := 0, duplicates := 0 } u)))

/-- R87, R88, R83, R84: a VOID and a CLEAR_CHECKIN in an open group with a newer revision, by the state of the entry. The
action byte is that of the command's row (log entry 16). -/
def Obligations.VoidAndClearDecided : Prop :=
  ∀ (source : Nat) (f : BusFrame) (c : NodeConfig) (index : Nat) (e : SeatEntry) (a : Entitlement) (s : State),
    UpdateOpen c index e a s →
    let u := carrierEnded s
    (UpdateNext 2 source f c index e a s →
      (e.standing = .empty → TicketFree index a.ticket.number s → exec (.void f) s =
        .next (seatBecomes c index e { standing := .void a.ticket, revision := a.revision, duplicates := 0 } u)) ∧
      (∀ (j : Nat) (e' : SeatEntry), e.standing = .empty → TicketAt j index a.ticket.number e' s →
        ¬ GroupFrozen c j s → exec (.void f) s =
          .next (seatBecomes c index e { standing := .void a.ticket, revision := a.revision, duplicates := 0 }
            (seatBecomes c j e' { standing := .empty, revision := 0, duplicates := 0 } u))) ∧
      (∀ (j : Nat) (e' : SeatEntry), e.standing = .empty → TicketAt j index a.ticket.number e' s → GroupFrozen c j s →
        exec (.void f) s = .next ((u.withEns
          { s.ens with frozenRefusals := min 65535 (s.ens.frozenRefusals + 1) }).withNtu (s.ntu.occur .frozenUpdate))) ∧
      (∀ t, e.standing = .issued t ∨ e.standing = .void t ∨ (∃ k n, e.standing = .checkedIn t k n) →
        exec (.void f) s =
          .next (seatBecomes c index e { e with standing := .void t, revision := a.revision } u))) ∧
    (UpdateNext 3 source f c index e a s →
      (∀ t k n, e.standing = .checkedIn t k n → exec (.clearCheckin f) s =
        .next (seatBecomes c index e { e with standing := .issued t, revision := a.revision } u)) ∧
      ((∀ t k n, e.standing ≠ .checkedIn t k n) → exec (.clearCheckin f) s = .next u))

/-- R80, R83: a RESYNC_FILL writes an EMPTY entry in the state that it carries, whatever its revision and whether its group
is frozen; where another seat holds the ticket it is counted stale, and an entry that is not EMPTY stays. The action byte is
that of the command's row (log entry 16). -/
def Obligations.ResyncFillDecided : Prop :=
  ∀ (source : Nat) (f : BusFrame) (c : NodeConfig) (index : Nat) (e : SeatEntry) (a : Entitlement) (s : State),
    UpdateNext 4 source f c index e a s →
    let u := carrierEnded s
    let filled (x : Standing) : Prop := exec (.resyncFill f) s = .next (u.withEns { s.ens with
      seats := s.ens.seats.set index { standing := x, revision := a.revision, duplicates := 0 } })
    (e.standing ≠ .empty → exec (.resyncFill f) s = .next u) ∧
    (e.standing = .empty → TicketFree index a.ticket.number s →
      (a.fill = some .issued → filled (.issued a.ticket)) ∧
      (a.fill = some .void → filled (.void a.ticket)) ∧
      (∀ client, a.client = some client → a.fill = some .checkedIn →
        (∀ time, a.time = some time → filled (.checkedIn a.ticket client time)) ∧
        (a.time = none → filled (.checkedIn a.ticket client s.sck.time))) ∧
      (a.fill = some .checkedIn → a.client = none → filled (.issued a.ticket))) ∧
    (e.standing = .empty → ¬ TicketFree index a.ticket.number s → exec (.resyncFill f) s = .next (u.withEns
      { s.ens with staleUpdates := min 65535 (s.ens.staleUpdates + 1) }))

/-- R90, R91: a FREEZE for the node's own first seat sets the flags of its mask; an UNFREEZE clears them in service mode, and
in normal mode changes nothing but UNFREEZE_REFUSED. A frame for another first seat has no effect. -/
def Obligations.FreezeAndUnfreeze : Prop :=
  ∀ (source target : Nat) (mask : BitVec 16) (f : BusFrame) (c : NodeConfig) (s : State),
    readFreeze f.payload = some (target, mask) → s.hearing = true → s.cfl.config = some c →
    let u := carrierEnded s
    (FrameTaken 34 source f s →
      (target ≠ c.firstSeat → exec (.freeze f) s = .next u) ∧
      (target = c.firstSeat → ∃ t, exec (.freeze f) s = .next t ∧
        t = u.withEns { s.ens with freeze := t.ens.freeze } ∧
        ∀ k, t.ens.freeze.getLsbD k = (s.ens.freeze.getLsbD k || mask.getLsbD k))) ∧
    (FrameTaken 35 source f s →
      (target ≠ c.firstSeat → exec (.unfreeze f) s = .next u) ∧
      (target = c.firstSeat → s.cfl.service = false →
        exec (.unfreeze f) s = .next (u.withNtu (s.ntu.occur .unfreezeRefused))) ∧
      (target = c.firstSeat → s.cfl.service = true → ∃ t, exec (.unfreeze f) s = .next t ∧
        t = u.withEns { s.ens with freeze := t.ens.freeze } ∧
        ∀ k, t.ens.freeze.getLsbD k = (s.ens.freeze.getLsbD k && !mask.getLsbD k)))

/-- R78, R91, R192, R199, R200: no command but a full reset changes the start mode or takes the node state any other way than
the table of 11 does; and in normal mode no command but a full reset thaws a freeze group. -/
def Obligations.RulesOfEveryCommand : Prop :=
  ∀ (c : Instr) (s t : State), (∀ strap, c ≠ .fullReset strap) → exec c s = .next t →
    NodeMove s.cfl.node t.cfl.node ∧ t.cfl.service = s.cfl.service ∧
      (s.cfl.service = false → ∀ k, s.ens.freeze.getLsbD k = true → t.ens.freeze.getLsbD k = true)

/-! ## Replay streams and segments (06) -/

/-- R117 to R122: a STREAM_ANNOUNCE is decided by the first row of R117 that fits: ignored, an update at the newest rank, a
withdrawal, a new entry, or the replacement of the oldest entry that may go. -/
def Obligations.AnnounceDecided : Prop :=
  ∀ (source : Nat) (a : Announce) (f : BusFrame) (s : State), FrameTaken 36 source f s →
    readAnnounce f.payload = some a → s.hearing = true → (s.rpc.streams.map Stream.id).Nodup →
    let u := carrierEnded s
    let table (l : List Stream) (born : Nat) : Prop :=
      exec (.streamAnnounce f) s = .next (u.withRpc { s.rpc with streams := l, nextBorn := born })
    let fresh : Stream :=
      { id := a.id, priority := a.priority, demand := a.demand, chunks := a.chunks, chunkLength := a.chunkLength,
        padding := a.padding, alignment := a.alignment, subscribers := 0, state := .idle, wantedSince := none,
        withdrawn := false, cursor := { current := none, nextIndex := 0, lastEmitted := none, lastSent := none },
        underruns := 0, born := s.rpc.nextBorn }
    let mayGo (x : Stream) : Prop := x.state = .idle ∧ x.withdrawn = false ∧ x.subscribers = 0 ∧
      ∀ g ∈ s.rpc.cache, g.stream ≠ x.id
    (a.id ∈ s.rpc.endReports → exec (.streamAnnounce f) s = .next u) ∧
    (a.id ∉ s.rpc.endReports →
      (∀ st, findStream a.id s = some st →
        (st.withdrawn = true → exec (.streamAnnounce f) s = .next u) ∧
        (st.withdrawn = false → a.demand ≠ 0 →
          table ((s.rpc.streams.filter fun x => x.id ≠ a.id) ++
            [{ st with priority := a.priority, demand := a.demand, chunks := a.chunks, chunkLength := a.chunkLength,
                       padding := a.padding, alignment := a.alignment }]) s.rpc.nextBorn) ∧
        (st.withdrawn = false → a.demand = 0 → st.cursor.current.isSome →
          table (s.rpc.streams.map fun x =>
            if x.id = a.id then { st with withdrawn := true, state := .draining } else x) s.rpc.nextBorn) ∧
        (st.withdrawn = false → a.demand = 0 → st.cursor.current = none →
          exec (.streamAnnounce f) s = .next ((u.withAst { s.ast with
              records := s.ast.records.map fun r => { r with subs := r.subs.filter fun x => x ≠ a.id } }).withRpc
            { s.rpc with
              streams := s.rpc.streams.filter fun x => x.id ≠ a.id
              cache := s.rpc.cache.filter fun g => g.stream ≠ a.id
              endReports := s.rpc.endReports ++ [a.id] }))) ∧
      (findStream a.id s = none →
        (a.demand = 0 → exec (.streamAnnounce f) s = .next u) ∧
        (a.demand ≠ 0 → s.rpc.streams.length + s.rpc.endReports.length < 8 →
          table (s.rpc.streams ++ [fresh]) (s.rpc.nextBorn + 1)) ∧
        (a.demand ≠ 0 → 8 ≤ s.rpc.streams.length + s.rpc.endReports.length →
          ((∀ x ∈ s.rpc.streams, ¬ mayGo x) → exec (.streamAnnounce f) s = .next (raise .streamTableFull u)) ∧
          (∀ pre old post, s.rpc.streams = pre ++ old :: post → (∀ x ∈ pre, ¬ mayGo x) → mayGo old →
            table (pre ++ post ++ [fresh]) (s.rpc.nextBorn + 1)))))

/-- R129 to R133: a SEGMENT frame is ignored, counted as malformed, or stored in its segment record, which it may complete or
create; a full cache gives up the victim of R133 or refuses with CACHE_FULL. That a frame of another stamp frees a SPENT
record before its own form is checked is log entry 17. -/
def Obligations.SegmentStored : Prop :=
  ∀ (source : Nat) (c : Chunk) (f : BusFrame) (s : State), FrameTaken 37 source f s → readSegment f.payload = some c →
    s.hearing = true → (s.rpc.cache.map fun r => (r.stream, r.sequence)).Nodup → s.rpc.cache.length ≤ 64 →
    let u := carrierEnded s
    let cached (l : List SegmentRecord) : Prop := exec (.segment f) s = .next (u.withRpc { s.rpc with cache := l })
    let malformed (l : List SegmentRecord) : Prop := exec (.segment f) s = .next (u.withRpc
      { s.rpc with cache := l, malformed := min 65535 (s.rpc.malformed + 1) })
    let fits (n len : Nat) : Prop := c.count = n ∧ c.index < n ∧ c.payload.length = len
    (findStream c.stream s = none → exec (.segment f) s = .next u) ∧
    ∀ st, findStream c.stream s = some st →
      (st.state = .idle ∨ st.withdrawn = true → exec (.segment f) s = .next u) ∧
      (st.state ≠ .idle → st.withdrawn = false →
        let ended : SegmentState := match st.cursor.lastSent with
          | some t =>
            let d := (c.sequence + (65536 - t % 65536)) % 65536
            if 1 ≤ d ∧ d ≤ 32767 then .complete else .spent
          | none => .complete
        let made : SegmentRecord :=
          { stream := c.stream, sequence := c.sequence, stamp := c.stamp, count := st.chunks,
            length := st.chunkLength, chunks := [(c.index, c.payload)],
            state := if st.chunks = 1 then ended else .filling }
        (findSegment c.stream c.sequence s = none →
          (¬ fits st.chunks st.chunkLength → malformed s.rpc.cache) ∧
          (fits st.chunks st.chunkLength → s.rpc.cache.length < 64 → cached (s.rpc.cache ++ [made])) ∧
          (fits st.chunks st.chunkLength → s.rpc.cache.length = 64 →
            let worth (k : SegmentState) (r : SegmentRecord) (p : Nat) : Prop :=
              r.state = k ∧ (findStream r.stream s).map Stream.priority = some p ∧ st.priority ≤ p
            (∀ pre v post, s.rpc.cache = pre ++ v :: post → v.state = .spent → (∀ x ∈ pre, x.state ≠ .spent) →
              cached (pre ++ post ++ [made])) ∧
            ((∀ x ∈ s.rpc.cache, x.state ≠ .spent) →
              (∀ k pre v post p, s.rpc.cache = pre ++ v :: post → worth k v p →
                (k = .filling ∨ (k = .complete ∧ ∀ x ∈ s.rpc.cache, ∀ p', ¬ worth .filling x p')) →
                (∀ x ∈ s.rpc.cache, ∀ p', worth k x p' → p' ≤ p) → (∀ x ∈ pre, ¬ worth k x p) →
                cached (pre ++ post ++ [made])) ∧
              ((∀ x ∈ s.rpc.cache, ∀ p', ¬ worth .filling x p' ∧ ¬ worth .complete x p') →
                exec (.segment f) s = .next (raise .cacheFull u))))) ∧
        ∀ r, findSegment c.stream c.sequence s = some r →
          (r.stamp = c.stamp →
            (¬ fits r.count r.length → malformed s.rpc.cache) ∧
            (fits r.count r.length → r.state ≠ .filling ∨ (chunkAt c.index r.chunks).isSome →
              exec (.segment f) s = .next u) ∧
            (fits r.count r.length → r.state = .filling → chunkAt c.index r.chunks = none →
              ∃ r' : SegmentRecord,
                (∀ k, chunkAt k r'.chunks = if k = c.index then some c.payload else chunkAt k r.chunks) ∧
                r'.chunks.length = r.chunks.length + 1 ∧
                r' = { r with chunks := r'.chunks,
                              state := if r.chunks.length + 1 = r.count then ended else .filling } ∧
                cached (s.rpc.cache.map fun x =>
                  if x.stream = c.stream ∧ x.sequence = c.sequence then r' else x))) ∧
          (r.stamp ≠ c.stamp → r.state ≠ .spent → malformed s.rpc.cache) ∧
          (r.stamp ≠ c.stamp → r.state = .spent →
            let left := s.rpc.cache.filter fun x => ¬ (x.stream = c.stream ∧ x.sequence = c.sequence)
            (fits st.chunks st.chunkLength → cached (left ++ [made])) ∧
            (¬ fits st.chunks st.chunkLength → malformed left)))

/-! ## The slot frame (07) -/

/-- R126, R144 to R150: at the start of a slot the unsent records of the ending slot are discarded and counted; then an assigned slot
of a stream that is not IDLE carries the next chunk of the current segment, the first chunk of the segment nearest ahead, or
a repetition or a filler, which is an underrun. The segments behind and those of the lag cut become SPENT, and the last chunk of a
segment ends it, and with it a DRAINING stream. -/
def Obligations.SlotStartEmits : Prop :=
  ∀ s : State, s.sls.running = true → s.sls.slot + 2 < s.slots →
    let kept := if s.rsl.sending = some .slot then s.rsl.slotLane.take 1 else []
    let u := (s.withRsl { s.rsl with slotLane := kept }).withSls { s.sls with
      slot := s.sls.slot + 1, slotMissed := min 65535 (s.sls.slotMissed + (s.rsl.slotLane.length - kept.length)) }
    (∀ m, s.sls.inForce = some m → m.places[s.sls.slot + 1]? = none ∨ m.places[s.sls.slot + 1]? = some none →
      exec .slotStart s = .next u) ∧
    (StreamKeys s → SlotHandled u fun x => exec .slotStart s = .next x)

/-- R143, R134, R123: the frame start puts the next map in force with one recompute, moves the streams of its order list, drops
the gapped segments with one SEGMENT_GAP each, and handles slot 0. R139, R8, R9: the last slot's start handles slot S-1, counts the
restore hold down and then builds the next map from the pool. That the gap drop comes before slot 0 is log entry 26. -/
def Obligations.MapsComeIntoForce : Prop :=
  ∀ s : State, s.sls.running = true →
    let kept := if s.rsl.sending = some .slot then s.rsl.slotLane.take 1 else []
    let begun (n : Nat) : State := (s.withRsl { s.rsl with slotLane := kept }).withSls { s.sls with
      slot := n, slotMissed := min 65535 (s.sls.slotMissed + (s.rsl.slotLane.length - kept.length)) }
    (s.sls.slot + 1 = s.slots →
      let empty : SlotMap := { places := List.replicate s.slots none, order := [], pool := 0 }
      let m := if s.sls.resetPending then empty else s.sls.nextMap.getD empty
      let v := recompute ((begun 0).withSls { (begun 0).sls with inForce := some m, nextMap := none, resetPending := false })
      let gap (r : SegmentRecord) : Bool := r.state == .filling && s.rpc.cache.any fun x =>
        x.stream == r.stream && x.state == .complete &&
          decide (1 ≤ (x.sequence + (65536 - r.sequence % 65536)) % 65536 ∧
            (x.sequence + (65536 - r.sequence % 65536)) % 65536 ≤ 32767)
      let w := (v.withRpc { s.rpc with
          streams := s.rpc.streams.map fun st =>
            if (∃ o ∈ m.order, o.stream = st.id ∧ o.born = st.born) ∧
                (st.state = .wanted ∨ st.state = .live ∨ st.state = .starved) then
              { st with state := if 0 < m.slotsOf st.id then .live else .starved }
            else st
          cache := s.rpc.cache.filter fun r => !gap r
          gaps := min 65535 (s.rpc.gaps + s.rpc.cache.countP gap) }).withNtu
        ((Ntu.occur .segmentGap)^[s.rpc.cache.countP gap] v.ntu)
      (m.places[0]? = some none ∨ m.places[0]? = none → exec .frameStart s = .next w) ∧
      (StreamKeys s → SlotHandled w fun x => exec .frameStart s = .next x)) ∧
    (s.sls.slot + 2 = s.slots →
      let rebuilt (x : State) : State :=
        let hold := if 0 < x.prm.restoreHold ∧ x.prm.monitor ≠ .critical then x.prm.restoreHold - 1 else x.prm.restoreHold
        let y := x.withPrm { x.prm with restoreHold := hold }
        let k := if x.prm.monitor = .critical ∨ 0 < hold then x.rmax / 2 else x.rmax
        y.withSls { y.sls with nextMap := some (buildMap k y) }
      (s.sls.inForce.all (fun m => m.places[s.slots - 1]?.join.isNone) = true →
        exec .lastSlotStart s = .next (rebuilt (begun (s.slots - 1)))) ∧
      (StreamKeys s → SlotHandled (begun (s.slots - 1)) fun x => exec .lastSlotStart s = .next (rebuilt x)))

/-- R139, R140, R141: a rebuilt map gives the pool out down the order list, DRAINING streams first, and lays the runs in that
order from slot S less the pool. -/
def Obligations.RebuiltMapFits : Prop :=
  ∀ (k : Nat) (s : State), k ≤ s.slots →
    let m := buildMap k s
    m.pool = k ∧ m.places.length = s.slots ∧ (m.order.map OrderEntry.given).sum ≤ k ∧
    ((s.rpc.streams.map Stream.id).Nodup → ∀ o ∈ m.order, m.slotsOf o.stream = o.given) ∧
    ∃ l : List Stream,
      (∀ st, st ∈ l ↔ st ∈ s.rpc.streams ∧ (st.state = .draining ∨
        ((st.state = .wanted ∨ st.state = .live ∨ st.state = .starved) ∧ 0 < st.subscribers ∧
          st.withdrawn = false))) ∧
      l.Pairwise (fun a b => (a.state = .draining ∧ b.state ≠ .draining) ∨
        ((a.state = .draining ↔ b.state = .draining) ∧
          (a.priority < b.priority ∨ (a.priority = b.priority ∧
            (a.wantedSince.getD 0 < b.wantedSince.getD 0 ∨
              (a.wantedSince.getD 0 = b.wantedSince.getD 0 ∧ a.id ≤ b.id)))))) ∧
      m.order.length = l.length ∧
      m.places = List.replicate (s.slots - k) none ++
        ((l.zip m.order).flatMap fun x => List.replicate x.2.given
          (some { stream := x.1.id, padding := x.1.padding, alignment := x.1.alignment })) ++
        List.replicate (k - (m.order.map OrderEntry.given).sum) none ∧
      ∀ i st, l[i]? = some st →
        let asked := if st.state = .draining then max 1 (slotsInForce st.id s) else st.demand
        let given := min asked (k - ((m.order.take i).map OrderEntry.given).sum)
        m.order[i]? = some { stream := st.id, born := st.born, given := given }

/-- R151, R126: a REPLAY_RESET finishes the DRAINING streams, empties the cache and the cursors, and empties the map at the next
frame start; an UNCONFIGURED node ignores it. That streams finish in announce order is log entry 18. -/
def Obligations.ReplayResetClears : Prop :=
  ∀ (rest : List LinkRecord) (s : State), RequestNext 70 [] rest s → (s.rpc.streams.map Stream.id).Nodup →
    let u := requestGone rest s
    (s.hearing = false → exec .replayReset s = .next u) ∧
    (s.hearing = true →
      let ends (st : Stream) : Bool := st.state == .draining && st.withdrawn
      let gone := (s.rpc.streams.filter ends).map Stream.id
      exec .replayReset s = .next (((u.withSls { s.sls with nextMap := none, resetPending := true }).withAst
          { s.ast with records := s.ast.records.map fun r => { r with subs := r.subs.filter fun x => x ∉ gone } }).withRpc
        { s.rpc with
          streams := (s.rpc.streams.filter fun st => !ends st).map fun st =>
            { st with
              cursor := { current := none, nextIndex := 0, lastEmitted := none, lastSent := none }
              underruns := 0
              wantedSince := if st.state = .draining then none else st.wantedSince
              state := if 0 < st.subscribers then .wanted
                else if st.state = .draining then .idle else st.state }
          endReports := s.rpc.endReports ++ gone
          cache := [] }))

/-! ## Row bus access (09) -/

/-- R171, R172, R173, R48, R63, R105, R29: a start of transmission takes the head of the URGENT queue, or else of the ROUTINE
queue, once the class's gap of idle line has passed; "sent" ends the frame and, for a grant, removes the record; after a
backoff the frame defers, and it starts again after the gap. A held association is admitted again when its grant has been sent. The
idle measure as an operand is log entry 4. A start that cannot occur changes nothing (log entry 1). -/
def Obligations.FramesAreSent : Prop :=
  ∀ (idle : Nat) (s : State),
    let now := idleNow idle s
    let waits (i : Instr) : Prop := exec i s = .next (s.withRbc { s.rbc with idle := now })
    (s.cfl.node ≠ .joined ∨ s.rbc.transmitter.isSome ∨ s.rbc.carrier = true → exec (.txStart idle) s = .next s) ∧
    (s.cfl.node = .joined → s.rbc.transmitter = none → s.rbc.carrier = false →
      (∀ g l, s.rbc.urgent = g :: l →
        (now < 16 → waits (.txStart idle)) ∧
        (16 ≤ now → exec (.txStart idle) s = .next (frameMarked g.tag .inTransmission (s.withRbc
          { s.rbc with urgent := l, transmitter := some { frame := g, collisions := 0, phase := .sending },
                       driven := g.wire s.station, idle := now })))) ∧
      (∀ g l, s.rbc.routine = g :: l → s.rbc.urgent = [] →
        (now < 32 → waits (.txStart idle)) ∧
        (32 ≤ now → exec (.txStart idle) s = .next (frameMarked g.tag .inTransmission (s.withRbc
          { s.rbc with routine := l, transmitter := some { frame := g, collisions := 0, phase := .sending },
                       driven := g.wire s.station, idle := now })))) ∧
      (s.rbc.urgent = [] → s.rbc.routine = [] → waits (.txStart idle))) ∧
    ∀ t, s.rbc.transmitter = some t →
      let ended := s.withRbc { s.rbc with transmitter := none, driven := [], idle := 0, jamReported := false }
      (t.phase = .sending → s.rbc.carrier = false →
        ((∀ client since b l, t.frame.body ≠ .ctxGrant client since b l) →
          exec .frameSent s = .next (frameMarked t.frame.tag .ended ended)) ∧
        (∀ client since b l, t.frame.body = .ctxGrant client since b l →
          (∀ r, findRecord client s = some r → r.state = .releasing → TableInv s →
            GrantEnds r (recompute (recordGone r ended)) fun x => exec .frameSent s = .next x) ∧
          (findRecord client s = none → exec .frameSent s = .next ended))) ∧
      (∀ n, t.phase = .backoff n → exec .backoffEnd s =
        .next (s.withRbc { s.rbc with transmitter := some { t with phase := .deferring } })) ∧
      (t.phase = .deferring → s.rbc.carrier = false →
        let gap := if t.frame.body.isUrgent then 16 else 32
        (now < gap → waits (.retryAttemptStart idle)) ∧
        (gap ≤ now → exec (.retryAttemptStart idle) s = .next (s.withRbc
          { s.rbc with transmitter := some { t with phase := .sending }, driven := t.frame.wire s.station, idle := now })))

/-- R173, R174, R175, R165, R29, R48, R55, R57, R63, R69, R105: a collision ends the attempt, and the run of carrier that goes on is
one the node was driving; the first seven collisions draw a backoff below its bound, whose value is free (log entry 9), and the
eighth drops the frame with TX_DROP, which ends what waits on it. -/
def Obligations.CollisionsDropFrames : Prop :=
  ∀ (t : Transmitter) (s : State), s.rbc.transmitter = some t → t.phase = .sending →
    (t.collisions + 1 < 8 → ∃ x, exec .collision s = .next x ∧ ∃ n < 2 ^ min (t.collisions + 1) 5,
      let next : Transmitter := { t with collisions := t.collisions + 1, phase := .backoff n }
      x = (s.withRbc { s.rbc with carrier := true, ownRun := true, driven := [], transmitter := some next }).withFree
        (s.free + 1)) ∧
    (8 ≤ t.collisions + 1 →
      let w := (s.withRbc { s.rbc with carrier := true, ownRun := true, driven := [], transmitter := none,
                                       txDrops := min 65535 (s.rbc.txDrops + 1) }).withNtu (s.ntu.occur .txDrop)
      (plainFrame t.frame.body = true → exec .collision s = .next w) ∧
      (TableInv s → EntriesApart s → DropEnds t.frame w fun x => exec .collision s = .next x))

/-- R164, R165, R176: another station's carrier starts and ends; a run too short for a frame is a fragment and counts
nothing, a run that the node itself was driving is no received frame, and any other damaged run counts one error. JAMMED is raised once while the carrier stays. The clauses in which nothing
changes are log entry 1. -/
def Obligations.CarrierComesAndGoes : Prop :=
  ∀ (run : List Byte) (s : State),
    let quiet := s.withRbc { s.rbc with carrier := false, ownRun := false, idle := 0, jamReported := false }
    exec .carrierStart s = .next (s.withRbc { s.rbc with carrier := true }) ∧
    (s.rbc.sends = false →
      (run.length < 7 ∨ s.rbc.receiver = false ∨ s.rbc.ownRun = true → exec (.carrierEnd run) s = .next quiet) ∧
      (7 ≤ run.length → s.rbc.receiver = true → s.rbc.ownRun = false → frameGood (kindOfRun run) (frameOfRun run) = false →
        exec (.carrierEnd run) s = .next (quiet.withRbc
          { quiet.rbc with crcErrors := min 65535 (s.rbc.crcErrors + 1) }))) ∧
    (s.rbc.sends = true → exec (.carrierEnd run) s = .next s) ∧
    (s.rbc.receiver = true → s.rbc.carrier = true → s.rbc.jamReported = false →
      exec .jamWatchExpiry s = .next ((s.withRbc { s.rbc with jamReported := true }).withNtu (s.ntu.occur .jammed))) ∧
    (s.rbc.receiver = false ∨ s.rbc.carrier = false ∨ s.rbc.jamReported = true → exec .jamWatchExpiry s = .next s)

/-- R165, R166, R167, R200, R177, R202, R29, R63, R75, R114: a frame that reaches the node, by whichever of the 25 frame commands, is
settled by the first step that settles it: damaged, from the node's own address, for another station, or of a kind that goes to no
block; a run of carrier that the
node was driving is no frame. An address clash in LISTENING or JOINED mutes the node, which drops the frames held, the transmitter's
first, then URGENT, then ROUTINE, each with its end at its originator. That a frame command ends the carrier, and is not taken while
the node sends, is log entry 16. -/
def Obligations.FramesAreSettled : Prop :=
  ∀ (kind : Byte) (source : Nat) (f : BusFrame) (s : State),
    let u := carrierEnded s
    (FrameTaken 11 source f s → exec (.checkinNote f) s = .next u) ∧
    (FrameTaken 12 source f s → exec (.incident f) s = .next u) ∧
    (FrameTaken 13 source f s → exec (.resyncRequest f) s = .next u) ∧
    (FrameTaken 33 source f s →
      (4 < fieldAt f.payload 2 1 ∨ 2 < fieldAt f.payload 9 1 ∨
        (fieldAt f.payload 2 1 = 4 ∧ (fieldAt f.payload 12 1 = 0 ∨ 3 < fieldAt f.payload 12 1))) →
      exec (.invalidEntitlementCode f) s = .next u) ∧
    (knownFrameKind kind = false → FrameTaken kind.toNat source f s →
      exec (.unknownKindFrame kind f) s = .next u) ∧
    ∀ x ∈ frameCommands kind f,
      let i := x.1
      let g := x.2.2
      (s.rbc.sends = true → exec i s = .next s) ∧
      (s.rbc.sends = false → s.rbc.receiver = false ∨ s.rbc.ownRun = true → exec i s = .next u) ∧
      (s.rbc.sends = false → s.rbc.receiver = true → s.rbc.ownRun = false →
        (frameGood x.2.1 g = false → exec i s = .next (u.withRbc
          { u.rbc with crcErrors := min 65535 (s.rbc.crcErrors + 1) })) ∧
        (frameGood x.2.1 g = true → g.source.toNat ≠ s.station → g.dest.toNat ≠ 0 → g.dest.toNat ≠ s.station →
          exec i s = .next u) ∧
        (frameGood x.2.1 g = true → g.source.toNat = s.station →
          let clash := u.withNtu (s.ntu.occur .addressClash)
          (s.cfl.node ≠ .listening → s.cfl.node ≠ .joined → exec i s = .next clash) ∧
          (s.cfl.node = .listening ∨ s.cfl.node = .joined →
            let held := (s.rbc.transmitter.map Transmitter.frame).toList ++ s.rbc.urgent ++ s.rbc.routine
            let muted := ((clash.withCfl { s.cfl with node := .muted, listenTimer := none }).withPrm
              { s.prm with advertTimer := none, holdOff := none, heldTrigger := false }).withRbc
              { u.rbc with urgent := [], routine := [], transmitter := none, driven := [] }
            ((∀ h ∈ held, plainFrame h.body = true) → exec i s = .next muted) ∧
            ∃ drop : TxFrame → State → State,
              (∀ h y, y.cfl.node = .muted → TableInv y → EntriesApart y → DropEnds h y fun z => drop h y = z) ∧
              exec i s = .next (held.foldl (fun y h => drop h y) muted))))

/-- 12.1, R178, R201: the bytes that the node drives for a frame read back as a frame without fault, from the node's station,
with the payload whole; and the receiver of its kind reads from it what the frame carries. R117, R201, R202: what a receiver reads
from any payload of an announce, a grant, a verdict, an ENTITLEMENT and a CLOCK frame, and which ones it discards. -/
def Obligations.FramesReadBack : Prop :=
  (∀ p : List Byte,
    (readAnnounce p = if p.length = 8 ∧ fieldAt p 1 1 ≤ 3 ∧ fieldAt p 6 1 ≤ 1 ∧ fieldAt p 7 1 ≤ 1 then
        some { id := fieldAt p 0 1, priority := fieldAt p 1 1
               demand := if 6 < fieldAt p 2 1 then 6 else fieldAt p 2 1
               chunks := if fieldAt p 3 1 = 0 then 1 else if 64 < fieldAt p 3 1 then 64 else fieldAt p 3 1
               chunkLength := if fieldAt p 4 2 < 64 then 64 else if 1024 < fieldAt p 4 2 then 1024 else fieldAt p 4 2
               padding := if fieldAt p 6 1 = 0 then .rep else .fill
               alignment := if fieldAt p 7 1 = 0 then .left else .right }
      else none) ∧
    (let n := fieldAt p 17 1;
      (4 < n ∨ p.length ≠ 18 + n ∨ 1 < fieldAt p 10 1 → readGrant p = none) ∧
      (n ≤ 4 → p.length = 18 + n →
        (fieldAt p 10 1 = 0 → readGrant p = some { client := fieldAt p 0 6, since := fieldAt p 6 4, binding := none,
                                                   streams := (p.drop 18).map BitVec.toNat }) ∧
        (fieldAt p 10 1 = 1 → readGrant p = some { client := fieldAt p 0 6, since := fieldAt p 6 4,
                                                   binding := some { ticket := fieldAt p 11 4, seat := fieldAt p 15 2 },
                                                   streams := (p.drop 18).map BitVec.toNat }))) ∧
    (let bad : Prop := p.length ≠ 14 ∨ 5 < fieldAt p 12 1 ∨
        (fieldAt p 12 1 = 4 ∧ (fieldAt p 13 1 = 0 ∨ 15 < fieldAt p 13 1));
      (bad → readVerdict p = none) ∧
      (¬ bad → ∃ v, readVerdict p = some v ∧ v.client = fieldAt p 0 6 ∧ v.ticket = fieldAt p 6 4 ∧
        v.seat = fieldAt p 10 2 ∧ v.duplicates = fieldAt p 13 1 ∧
        [Verdict.admitted, .unknownSeat, .voided, .notCurrent, .duplicate, .noOwner][fieldAt p 12 1]? = some v.result)) ∧
    (let bad : Prop := p.length ≠ 25 ∨ 4 < fieldAt p 2 1 ∨ 2 < fieldAt p 9 1 ∨ 1 < fieldAt p 13 1 ∨ 1 < fieldAt p 20 1 ∨
        (fieldAt p 2 1 = 4 ∧ (fieldAt p 12 1 = 0 ∨ 3 < fieldAt p 12 1));
      (bad → readEntitlement p = none) ∧
      (¬ bad → ∃ a, readEntitlement p = some a ∧ a.seat = fieldAt p 0 2 ∧ a.revision = fieldAt p 10 2 ∧
        [Action.issue, .reissue, .void, .clearCheckin, .resyncFill][fieldAt p 2 1]? = some a.action ∧
        a.ticket.number = fieldAt p 3 4 ∧ a.ticket.serial = fieldAt p 7 2 ∧
        [Tier.general, .member, .hospitality][fieldAt p 9 1]? = some a.ticket.tier ∧
        a.fill = (match fieldAt p 12 1 with
          | 1 => some .issued | 2 => some .checkedIn | 3 => some .void | _ => none) ∧
        a.client = (if fieldAt p 13 1 = 1 then some (fieldAt p 14 6) else none) ∧
        a.time = if fieldAt p 20 1 = 1 then some (fieldAt p 21 4) else none)) ∧
    (p.length ≠ 5 → readClock p = none) ∧
    (p.length = 5 → readClock p = some (fieldAt p 0 4,
      [Phase.unknown, .preGates, .gatesOpen, .firstHalf, .interval, .secondHalf, .extraTime, .penalties,
        .fullTime][fieldAt p 4 1]?))) ∧
  ∀ (station : Nat) (g : TxFrame), 1 ≤ station → station ≤ 31 → g.dest ≤ 31 → FrameFits g.body →
    let f := frameOfRun (g.wire station)
    isFragment (g.wire station) = false ∧ (kindOfRun (g.wire station)).toNat = g.body.kindCode ∧
    frameGood (kindOfRun (g.wire station)) f = true ∧ f.source.toNat = station ∧ f.dest.toNat = g.dest ∧
    f.payload = g.body.payload ∧
    match g.body with
    | .loadAdvert first count p _ _ _ =>
      readAdvert f.payload = some { firstSeat := first, seatCount := count, pressure := p }
    | .ctxPull client since _ => readPull f.payload = some (client, since)
    | .ctxGrant client since b streams =>
      readGrant f.payload = some { client := client, since := since, binding := b, streams := streams }
    | .ctxNone client | .ctxHeld client | .steerAccept client => readClient f.payload = some client
    | .steerOffer client seat _ => readOffer f.payload = some (client, seat)
    | .steerDecline client _ => readDecline f.payload = some client
    | .checkinClaim client ticket seat serial _ =>
      readClaim f.payload = some { client := client, ticket := ticket, seat := seat, serial := serial }
    | .checkinVerdict client ticket seat result n =>
      readVerdict f.payload = some { client := client, ticket := ticket, seat := seat, result := result, duplicates := n }
    | .checkinNote .. => f.payload.length = 16
    | .incident .. => f.payload.length = 18
    | .resyncRequest .. => f.payload.length = 4

/-! ## The radio-side link and the notices (10) -/

/-- R180 to R184, R50, R112, R122, R149: a link record is queued or counted as an error; a body that does not fit and an unknown
kind are answered REJECT; the lanes' heads are sent in their order while the baseband is ready; a record goes to the tail of its
lane, or behind what waits in its block's backlog; and each waiting source of the message lane moves its head to a free place in its
turn. That the bodies are read from the head of the inbound queue is log entry 6, the turns of the sources log entry 7, the start on
an idle line log entry 8, and the row of a NOTICE_CONTROL of a wrong length log entry 23. -/
def Obligations.LinkMovesRecords : Prop :=
  ∀ (kind : Byte) (body : List Byte) (check : Byte) (rest : List LinkRecord) (s : State),
    let counted := byteSum (kind :: (beBytes 2 body.length ++ body ++ [check])) = 0
    let refused (k : Nat) (i : Instr) : Prop :=
      RequestNext k body rest s → exec i s = .next (placeOnLane (.reject (BitVec.ofNat 8 k) .badLength) (requestGone rest s))
    let next (x : Rsl) : Rsl := match x.slotLane, x.lane with
      | h :: _, _ => { x with sending := some .slot, serialOut := h.bytes }
      | [], h :: _ => { x with sending := some .message, serialOut := h.bytes }
      | [], [] => x
    (counted → s.rsl.inbound.length < 32 → exec (.linkRecordArrival kind body check) s =
      .next (s.withRsl { s.rsl with inbound := s.rsl.inbound ++ [{ kind := kind, body := body }] })) ∧
    (¬ counted ∨ 32 ≤ s.rsl.inbound.length → exec (.linkRecordArrival kind body check) s =
      .next (s.withRsl { s.rsl with linkErrors := min 65535 (s.rsl.linkErrors + 1) })) ∧
    (readAssociate body = none → refused 64 .associate) ∧ (readHeard body = none → refused 65 .heard) ∧
    (body.length ≠ 6 → refused 66 .depart) ∧ (body.length ≠ 18 → refused 67 .presentTicket) ∧
    (body.length ≠ 7 → refused 68 .subscribe ∧ refused 69 .unsubscribe) ∧
    (body.length ≠ 0 → refused 70 .replayReset ∧ refused 72 .statusQuery) ∧
    (RequestNext kind.toNat body rest s → kind.toNat < 64 ∨ 72 < kind.toNat →
      exec .unknownKindRecord s = .next (placeOnLane (.reject kind .unknownKind) (requestGone rest s))) ∧
    (body.length ≠ 5 →
      (body = [] ∨ 5 < fieldAt body 0 1 → refused 71 .noticeControlBadOperation) ∧
      (body ≠ [] → ∀ op i, (op, i) ∈ [(0, Instr.enable), (1, .disable), (2, .ack), (3, .globalOn), (4, .globalOff),
        (5, .clearAll)] → fieldAt body 0 1 = op → refused 71 i)) ∧
    (let idle : Prop := s.rsl.basebandReady = true ∧ s.rsl.sending = none;
      (∀ x, let y : Rsl := { s.rsl with lane := s.rsl.lane ++ [x] };
        (idle → placeOnLane x s = s.withRsl (next y)) ∧ (¬ idle → placeOnLane x s = s.withRsl y)) ∧
      ∀ x, let y : Rsl := { s.rsl with slotLane := s.rsl.slotLane ++ [x] };
        (idle → placeOnSlotLane x s = s.withRsl (next y)) ∧ (¬ idle → placeOnSlotLane x s = s.withRsl y)) ∧
    (∀ x, let hoeFree : Prop := s.rsl.lane.length < 64 ∧ s.hoe.backlog = [];
      (hoeFree → hoePlace x s = placeOnLane x s) ∧
      (¬ hoeFree → hoePlace x s = s.withHoe { s.hoe with backlog := s.hoe.backlog ++ [x] }) ∧
      (hoeFree ∧ s.cku.backlog = [] → ckuPlace x s = placeOnLane x s) ∧
      (¬ (hoeFree ∧ s.cku.backlog = []) → ckuPlace x s = s.withCku { s.cku with backlog := s.cku.backlog ++ [x] }) ∧
      (hoeFree ∧ s.cku.backlog = [] ∧ s.rsl.astBacklog = [] → astPlace x s = placeOnLane x s) ∧
      (¬ (hoeFree ∧ s.cku.backlog = [] ∧ s.rsl.astBacklog = []) →
        astPlace x s = s.withRsl { s.rsl with astBacklog := s.rsl.astBacklog ++ [x] })) ∧
    ((s.rsl.sending = some .message → exec .recordTaken s = .next (s.withRsl
        (let x : Rsl := { s.rsl with lane := s.rsl.lane.tail, sending := none, serialOut := [] }
          if s.rsl.basebandReady then next x else x))) ∧
      (s.rsl.sending = some .slot → exec .recordTaken s = .next (s.withRsl
        (let x : Rsl := { s.rsl with slotLane := s.rsl.slotLane.tail, sending := none, serialOut := [] }
          if s.rsl.basebandReady then next x else x))) ∧
      exec (.basebandReady false) s = .next (s.withRsl { s.rsl with basebandReady := false }) ∧
      exec (.basebandReady true) s = .next (s.withRsl
        (let x : Rsl := { s.rsl with basebandReady := true }
          if s.rsl.sending = none then next x else x))) ∧
    (∀ x l, s.hoe.backlog = x :: l →
      (s.rsl.lane.length < 64 → exec .hoeBacklogMove s = .next (placeOnLane x (s.withHoe { s.hoe with backlog := l }))) ∧
      (64 ≤ s.rsl.lane.length → exec .hoeBacklogMove s = .next s)) ∧
    (∀ x l, s.cku.backlog = x :: l → s.rsl.lane.length < 64 → s.hoe.backlog = [] →
      exec .ckuBacklogMove s = .next (placeOnLane x (s.withCku { s.cku with backlog := l }))) ∧
    (∀ x l, s.rsl.astBacklog = x :: l → s.rsl.lane.length < 64 → s.hoe.backlog = [] → s.cku.backlog = [] →
      exec .astBacklogMove s = .next (placeOnLane x (s.withRsl { s.rsl with astBacklog := l }))) ∧
    (∀ x l, s.rpc.endReports = x :: l → s.rsl.lane.length < 64 → s.hoe.backlog = [] → s.cku.backlog = [] →
      s.rsl.astBacklog = [] →
      exec .streamEnded s = .next (placeOnLane (.streamEnded x) (s.withRpc { s.rpc with endReports := l })))

/-- R186 to R189, R202: what an occurrence of a notice kind does, what each NOTICE_CONTROL operation does to the cells and the
group flags of the kinds its mask names, and what a NOTICE delivers. -/
def Obligations.NoticesControlled : Prop :=
  ∀ (body : List Byte) (rest : List LinkRecord) (s : State), s.ntu.kinds.map NoticeCell.kind = NoticeKind.all →
    let u := requestGone rest s
    let named (k : NoticeKind) : Bool := (BitVec.ofNat 32 (fieldAt body 1 4)).getLsbD k.code
    let control (op : Nat) : Prop := RequestNext 71 body rest s ∧ body.length = 5 ∧ fieldAt body 0 1 = op
    let taken (i : Instr) (n : Ntu) : Prop := exec i s = .next (u.withNtu n)
    (∀ k, ((s.ntu.occur k).cell k = { s.ntu.cell k with pending := true, counter := min 255 ((s.ntu.cell k).counter + 1) }) ∧
      (∀ k', k' ≠ k → (s.ntu.occur k).cell k' = s.ntu.cell k') ∧ (s.ntu.occur k).globalEnable = s.ntu.globalEnable ∧
      ∀ g, (s.ntu.occur k).groups.get g = (s.ntu.groups.get g ||
        (k.group == g && !(s.ntu.cell k).pending && (s.ntu.cell k).enabled))) ∧
    (control 0 → ∃ n, taken .enable n ∧ n.globalEnable = s.ntu.globalEnable ∧
      (∀ k, n.cell k = { s.ntu.cell k with enabled := (s.ntu.cell k).enabled || named k }) ∧
      ∀ g, n.groups.get g = (s.ntu.groups.get g || NoticeKind.all.any fun k =>
        k.group == g && named k && !(s.ntu.cell k).enabled && (s.ntu.cell k).pending)) ∧
    (control 1 → ∃ n, taken .disable n ∧ n.globalEnable = s.ntu.globalEnable ∧ n.groups = s.ntu.groups ∧
      ∀ k, n.cell k = { s.ntu.cell k with enabled := (s.ntu.cell k).enabled && !named k }) ∧
    (control 2 → ∃ n, taken .ack n ∧ n.globalEnable = s.ntu.globalEnable ∧
      (∀ k, n.cell k = { s.ntu.cell k with pending := (s.ntu.cell k).pending && !named k }) ∧
      ∀ g, n.groups.get g = (s.ntu.groups.get g && NoticeKind.all.any fun k =>
        k.group == g && (s.ntu.cell k).pending && !named k)) ∧
    (control 3 → taken .globalOn { s.ntu with globalEnable := true }) ∧
    (control 4 → taken .globalOff { s.ntu with globalEnable := false }) ∧
    (control 5 → ∃ n, taken .clearAll n ∧ n.globalEnable = s.ntu.globalEnable ∧
      n.groups = { cell := false, ticket := false, replay := false, links := false } ∧
      ∀ k, n.cell k = { s.ntu.cell k with pending := false, counter := 0 }) ∧
    (∀ op, 5 < op → control op → exec .noticeControlBadOperation s = .next u) ∧
    (s.ntu.globalEnable = false → exec .noticeDelivery s = .next s) ∧
    (∀ g, s.ntu.globalEnable = true → s.ntu.groups.get g = true →
      (∀ g', s.ntu.groups.get g' = true → g.code ≤ g'.code) → s.rsl.lane.length < 64 → s.hoe.backlog = [] →
      s.cku.backlog = [] → s.rsl.astBacklog = [] → s.rpc.endReports = [] →
      ∃ (n : Ntu) (l : List (NoticeKind × Nat)),
        exec .noticeDelivery s = .next (placeOnLane (.notice g l) (s.withNtu n)) ∧
        l = ((NoticeKind.all.filter fun k => k.group == g && (s.ntu.cell k).pending).map fun k =>
          (k, (s.ntu.cell k).counter)) ∧
        n.kinds = s.ntu.kinds ∧ n.globalEnable = true ∧
        ∀ g', n.groups.get g' = (s.ntu.groups.get g' && g' != g))
end

