-- ==== Sys2Proof/Laws/Bytes.lean ====
section
/-! SUPPORT. Fields and byte order, and the chunk store of a segment record: what a store does, and that it keeps the rising form
(R127, R130). -/

namespace Sys2Proof.Machine

/-! ## Fields -/

@[simp] theorem beBytes_length (n v : Nat) : (beBytes n v).length = n := by
  induction n generalizing v with
  | zero => rfl
  | succ n ih => simp [beBytes, ih]

theorem beNat_append_one (l : List Byte) (b : Byte) : beNat (l ++ [b]) = beNat l * 256 + b.toNat := by
  simp [beNat]

/-- A field read back is the value written, when the value has room in it. -/
theorem beNat_beBytes (n v : Nat) (h : v < 256 ^ n) : beNat (beBytes n v) = v := by
  induction n generalizing v with
  | zero => simp at h; subst h; rfl
  | succ n ih =>
    have hv : v / 256 < 256 ^ n := Nat.div_lt_of_lt_mul (by rw [Nat.pow_succ] at h; omega)
    rw [beBytes, beNat_append_one, ih _ hv, BitVec.toNat_ofNat]
    omega

/-- A field at the front of a list of bytes. -/
theorem fieldAt_front (n v : Nat) (rest : List Byte) (h : v < 256 ^ n) : fieldAt (beBytes n v ++ rest) 0 n = v := by
  simp [fieldAt, beNat_beBytes n v h]

/-- A field behind other bytes. -/
theorem fieldAt_skip (front rest : List Byte) (off n : Nat) :
    fieldAt (front ++ rest) (front.length + off) n = fieldAt rest off n := by
  simp [fieldAt, List.drop_append, List.drop_eq_nil_of_le]

theorem signed16_range (v : Nat) (h : v < 65536) : -32768 ≤ signed16 v ∧ signed16 v ≤ 32767 := by
  unfold signed16; split <;> omega

/-! ## The chunk store -/

theorem chunksRise_cons (a : Nat × List Byte) (l : List (Nat × List Byte)) :
    chunksRise (a :: l) = true ↔ (∀ b ∈ l.head?, a.1 < b.1) ∧ chunksRise l = true := by
  cases l <;> simp [chunksRise]

theorem storeChunk_head (i : Nat) (p : List Byte) (l : List (Nat × List Byte)) :
    ∀ b ∈ (storeChunk i p l).head?, b.1 = i ∨ b ∈ l.head? := by
  cases l with
  | nil => simp [storeChunk]
  | cons c cs =>
    intro b hb
    unfold storeChunk at hb
    split at hb <;> rename_i h <;> try split at hb
    all_goals simp at hb; subst hb; simp

/-- A store keeps the rising form. -/
theorem storeChunk_rises (i : Nat) (p : List Byte) (l : List (Nat × List Byte)) (h : chunksRise l = true) :
    chunksRise (storeChunk i p l) = true := by
  induction l with
  | nil => rfl
  | cons c cs ih =>
    obtain ⟨hc, hcs⟩ := (chunksRise_cons c cs).1 h
    unfold storeChunk
    split
    · rename_i hi
      exact (chunksRise_cons _ _).2 ⟨by simpa using hi, h⟩
    · split
      · exact h
      · refine (chunksRise_cons _ _).2 ⟨fun b hb => ?_, ih hcs⟩
        obtain hb | hb := storeChunk_head i p cs b hb
        · omega
        · exact hc b hb

/-- A chunk that was not held is read after its store. -/
theorem chunkAt_storeChunk (i : Nat) (p : List Byte) (l : List (Nat × List Byte)) (h : chunkAt i l = none) :
    chunkAt i (storeChunk i p l) = some p := by
  induction l with
  | nil => simp [storeChunk, chunkAt]
  | cons c cs ih =>
    have hc : c.1 ≠ i := by
      intro hc; simp [chunkAt, hc] at h
    have hcs : chunkAt i cs = none := by simpa [chunkAt, hc] using h
    unfold storeChunk
    split
    · simp [chunkAt]
    · split
      · omega
      · simpa [chunkAt, hc] using ih hcs

/-- A store leaves every other chunk as it was. -/
theorem chunkAt_storeChunk_other (i j : Nat) (p : List Byte) (l : List (Nat × List Byte)) (h : j ≠ i) :
    chunkAt j (storeChunk i p l) = chunkAt j l := by
  induction l with
  | nil => simp [storeChunk, chunkAt, Ne.symm h]
  | cons c cs ih =>
    unfold storeChunk
    split
    · simp [chunkAt, Ne.symm h]
    · split
      · rfl
      · by_cases hc : c.1 = j
        · simp [chunkAt, hc]
        · simpa [chunkAt, hc] using ih

/-- A chunk that was not held adds one to the store. -/
theorem storeChunk_length (i : Nat) (p : List Byte) (l : List (Nat × List Byte)) (h : chunkAt i l = none) :
    (storeChunk i p l).length = l.length + 1 := by
  induction l with
  | nil => rfl
  | cons c cs ih =>
    have hc : c.1 ≠ i := by
      intro hc; simp [chunkAt, hc] at h
    have hcs : chunkAt i cs = none := by simpa [chunkAt, hc] using h
    unfold storeChunk
    split
    · rfl
    · split
      · omega
      · simp [ih hcs]

end Sys2Proof.Machine
end

