-- ==== Sys2Proof/Laws/State.lean ====
section
/-! SUPPORT. One lemma for each field of State under each update of one block. -/

namespace Sys2Proof.Machine

@[simp] theorem State.withCfl_cfl (s : State) (v : Cfl) : (s.withCfl v).cfl = v := rfl
@[simp] theorem State.withCfl_prm (s : State) (v : Cfl) : (s.withCfl v).prm = s.prm := rfl
@[simp] theorem State.withCfl_nbt (s : State) (v : Cfl) : (s.withCfl v).nbt = s.nbt := rfl
@[simp] theorem State.withCfl_ast (s : State) (v : Cfl) : (s.withCfl v).ast = s.ast := rfl
@[simp] theorem State.withCfl_hoe (s : State) (v : Cfl) : (s.withCfl v).hoe = s.hoe := rfl
@[simp] theorem State.withCfl_ens (s : State) (v : Cfl) : (s.withCfl v).ens = s.ens := rfl
@[simp] theorem State.withCfl_cku (s : State) (v : Cfl) : (s.withCfl v).cku = s.cku := rfl
@[simp] theorem State.withCfl_rpc (s : State) (v : Cfl) : (s.withCfl v).rpc = s.rpc := rfl
@[simp] theorem State.withCfl_sls (s : State) (v : Cfl) : (s.withCfl v).sls = s.sls := rfl
@[simp] theorem State.withCfl_sck (s : State) (v : Cfl) : (s.withCfl v).sck = s.sck := rfl
@[simp] theorem State.withCfl_rbc (s : State) (v : Cfl) : (s.withCfl v).rbc = s.rbc := rfl
@[simp] theorem State.withCfl_rsl (s : State) (v : Cfl) : (s.withCfl v).rsl = s.rsl := rfl
@[simp] theorem State.withCfl_ntu (s : State) (v : Cfl) : (s.withCfl v).ntu = s.ntu := rfl
@[simp] theorem State.withCfl_free (s : State) (v : Cfl) : (s.withCfl v).free = s.free := rfl
@[simp] theorem State.withCfl_pending (s : State) (v : Cfl) : (s.withCfl v).pending = s.pending := rfl
@[simp] theorem State.withCfl_twice (s : State) (v w : Cfl) : (s.withCfl v).withCfl w = s.withCfl w := rfl
@[simp] theorem State.withCfl_same (s : State) : s.withCfl s.cfl = s := rfl

@[simp] theorem State.withPrm_cfl (s : State) (v : Prm) : (s.withPrm v).cfl = s.cfl := rfl
@[simp] theorem State.withPrm_prm (s : State) (v : Prm) : (s.withPrm v).prm = v := rfl
@[simp] theorem State.withPrm_nbt (s : State) (v : Prm) : (s.withPrm v).nbt = s.nbt := rfl
@[simp] theorem State.withPrm_ast (s : State) (v : Prm) : (s.withPrm v).ast = s.ast := rfl
@[simp] theorem State.withPrm_hoe (s : State) (v : Prm) : (s.withPrm v).hoe = s.hoe := rfl
@[simp] theorem State.withPrm_ens (s : State) (v : Prm) : (s.withPrm v).ens = s.ens := rfl
@[simp] theorem State.withPrm_cku (s : State) (v : Prm) : (s.withPrm v).cku = s.cku := rfl
@[simp] theorem State.withPrm_rpc (s : State) (v : Prm) : (s.withPrm v).rpc = s.rpc := rfl
@[simp] theorem State.withPrm_sls (s : State) (v : Prm) : (s.withPrm v).sls = s.sls := rfl
@[simp] theorem State.withPrm_sck (s : State) (v : Prm) : (s.withPrm v).sck = s.sck := rfl
@[simp] theorem State.withPrm_rbc (s : State) (v : Prm) : (s.withPrm v).rbc = s.rbc := rfl
@[simp] theorem State.withPrm_rsl (s : State) (v : Prm) : (s.withPrm v).rsl = s.rsl := rfl
@[simp] theorem State.withPrm_ntu (s : State) (v : Prm) : (s.withPrm v).ntu = s.ntu := rfl
@[simp] theorem State.withPrm_free (s : State) (v : Prm) : (s.withPrm v).free = s.free := rfl
@[simp] theorem State.withPrm_pending (s : State) (v : Prm) : (s.withPrm v).pending = s.pending := rfl
@[simp] theorem State.withPrm_twice (s : State) (v w : Prm) : (s.withPrm v).withPrm w = s.withPrm w := rfl
@[simp] theorem State.withPrm_same (s : State) : s.withPrm s.prm = s := rfl

@[simp] theorem State.withNbt_cfl (s : State) (v : List Neighbour) : (s.withNbt v).cfl = s.cfl := rfl
@[simp] theorem State.withNbt_prm (s : State) (v : List Neighbour) : (s.withNbt v).prm = s.prm := rfl
@[simp] theorem State.withNbt_nbt (s : State) (v : List Neighbour) : (s.withNbt v).nbt = v := rfl
@[simp] theorem State.withNbt_ast (s : State) (v : List Neighbour) : (s.withNbt v).ast = s.ast := rfl
@[simp] theorem State.withNbt_hoe (s : State) (v : List Neighbour) : (s.withNbt v).hoe = s.hoe := rfl
@[simp] theorem State.withNbt_ens (s : State) (v : List Neighbour) : (s.withNbt v).ens = s.ens := rfl
@[simp] theorem State.withNbt_cku (s : State) (v : List Neighbour) : (s.withNbt v).cku = s.cku := rfl
@[simp] theorem State.withNbt_rpc (s : State) (v : List Neighbour) : (s.withNbt v).rpc = s.rpc := rfl
@[simp] theorem State.withNbt_sls (s : State) (v : List Neighbour) : (s.withNbt v).sls = s.sls := rfl
@[simp] theorem State.withNbt_sck (s : State) (v : List Neighbour) : (s.withNbt v).sck = s.sck := rfl
@[simp] theorem State.withNbt_rbc (s : State) (v : List Neighbour) : (s.withNbt v).rbc = s.rbc := rfl
@[simp] theorem State.withNbt_rsl (s : State) (v : List Neighbour) : (s.withNbt v).rsl = s.rsl := rfl
@[simp] theorem State.withNbt_ntu (s : State) (v : List Neighbour) : (s.withNbt v).ntu = s.ntu := rfl
@[simp] theorem State.withNbt_free (s : State) (v : List Neighbour) : (s.withNbt v).free = s.free := rfl
@[simp] theorem State.withNbt_pending (s : State) (v : List Neighbour) : (s.withNbt v).pending = s.pending := rfl
@[simp] theorem State.withNbt_twice (s : State) (v w : List Neighbour) : (s.withNbt v).withNbt w = s.withNbt w := rfl
@[simp] theorem State.withNbt_same (s : State) : s.withNbt s.nbt = s := rfl

@[simp] theorem State.withAst_cfl (s : State) (v : Ast) : (s.withAst v).cfl = s.cfl := rfl
@[simp] theorem State.withAst_prm (s : State) (v : Ast) : (s.withAst v).prm = s.prm := rfl
@[simp] theorem State.withAst_nbt (s : State) (v : Ast) : (s.withAst v).nbt = s.nbt := rfl
@[simp] theorem State.withAst_ast (s : State) (v : Ast) : (s.withAst v).ast = v := rfl
@[simp] theorem State.withAst_hoe (s : State) (v : Ast) : (s.withAst v).hoe = s.hoe := rfl
@[simp] theorem State.withAst_ens (s : State) (v : Ast) : (s.withAst v).ens = s.ens := rfl
@[simp] theorem State.withAst_cku (s : State) (v : Ast) : (s.withAst v).cku = s.cku := rfl
@[simp] theorem State.withAst_rpc (s : State) (v : Ast) : (s.withAst v).rpc = s.rpc := rfl
@[simp] theorem State.withAst_sls (s : State) (v : Ast) : (s.withAst v).sls = s.sls := rfl
@[simp] theorem State.withAst_sck (s : State) (v : Ast) : (s.withAst v).sck = s.sck := rfl
@[simp] theorem State.withAst_rbc (s : State) (v : Ast) : (s.withAst v).rbc = s.rbc := rfl
@[simp] theorem State.withAst_rsl (s : State) (v : Ast) : (s.withAst v).rsl = s.rsl := rfl
@[simp] theorem State.withAst_ntu (s : State) (v : Ast) : (s.withAst v).ntu = s.ntu := rfl
@[simp] theorem State.withAst_free (s : State) (v : Ast) : (s.withAst v).free = s.free := rfl
@[simp] theorem State.withAst_pending (s : State) (v : Ast) : (s.withAst v).pending = s.pending := rfl
@[simp] theorem State.withAst_twice (s : State) (v w : Ast) : (s.withAst v).withAst w = s.withAst w := rfl
@[simp] theorem State.withAst_same (s : State) : s.withAst s.ast = s := rfl

@[simp] theorem State.withHoe_cfl (s : State) (v : Hoe) : (s.withHoe v).cfl = s.cfl := rfl
@[simp] theorem State.withHoe_prm (s : State) (v : Hoe) : (s.withHoe v).prm = s.prm := rfl
@[simp] theorem State.withHoe_nbt (s : State) (v : Hoe) : (s.withHoe v).nbt = s.nbt := rfl
@[simp] theorem State.withHoe_ast (s : State) (v : Hoe) : (s.withHoe v).ast = s.ast := rfl
@[simp] theorem State.withHoe_hoe (s : State) (v : Hoe) : (s.withHoe v).hoe = v := rfl
@[simp] theorem State.withHoe_ens (s : State) (v : Hoe) : (s.withHoe v).ens = s.ens := rfl
@[simp] theorem State.withHoe_cku (s : State) (v : Hoe) : (s.withHoe v).cku = s.cku := rfl
@[simp] theorem State.withHoe_rpc (s : State) (v : Hoe) : (s.withHoe v).rpc = s.rpc := rfl
@[simp] theorem State.withHoe_sls (s : State) (v : Hoe) : (s.withHoe v).sls = s.sls := rfl
@[simp] theorem State.withHoe_sck (s : State) (v : Hoe) : (s.withHoe v).sck = s.sck := rfl
@[simp] theorem State.withHoe_rbc (s : State) (v : Hoe) : (s.withHoe v).rbc = s.rbc := rfl
@[simp] theorem State.withHoe_rsl (s : State) (v : Hoe) : (s.withHoe v).rsl = s.rsl := rfl
@[simp] theorem State.withHoe_ntu (s : State) (v : Hoe) : (s.withHoe v).ntu = s.ntu := rfl
@[simp] theorem State.withHoe_free (s : State) (v : Hoe) : (s.withHoe v).free = s.free := rfl
@[simp] theorem State.withHoe_pending (s : State) (v : Hoe) : (s.withHoe v).pending = s.pending := rfl
@[simp] theorem State.withHoe_twice (s : State) (v w : Hoe) : (s.withHoe v).withHoe w = s.withHoe w := rfl
@[simp] theorem State.withHoe_same (s : State) : s.withHoe s.hoe = s := rfl

@[simp] theorem State.withEns_cfl (s : State) (v : Ens) : (s.withEns v).cfl = s.cfl := rfl
@[simp] theorem State.withEns_prm (s : State) (v : Ens) : (s.withEns v).prm = s.prm := rfl
@[simp] theorem State.withEns_nbt (s : State) (v : Ens) : (s.withEns v).nbt = s.nbt := rfl
@[simp] theorem State.withEns_ast (s : State) (v : Ens) : (s.withEns v).ast = s.ast := rfl
@[simp] theorem State.withEns_hoe (s : State) (v : Ens) : (s.withEns v).hoe = s.hoe := rfl
@[simp] theorem State.withEns_ens (s : State) (v : Ens) : (s.withEns v).ens = v := rfl
@[simp] theorem State.withEns_cku (s : State) (v : Ens) : (s.withEns v).cku = s.cku := rfl
@[simp] theorem State.withEns_rpc (s : State) (v : Ens) : (s.withEns v).rpc = s.rpc := rfl
@[simp] theorem State.withEns_sls (s : State) (v : Ens) : (s.withEns v).sls = s.sls := rfl
@[simp] theorem State.withEns_sck (s : State) (v : Ens) : (s.withEns v).sck = s.sck := rfl
@[simp] theorem State.withEns_rbc (s : State) (v : Ens) : (s.withEns v).rbc = s.rbc := rfl
@[simp] theorem State.withEns_rsl (s : State) (v : Ens) : (s.withEns v).rsl = s.rsl := rfl
@[simp] theorem State.withEns_ntu (s : State) (v : Ens) : (s.withEns v).ntu = s.ntu := rfl
@[simp] theorem State.withEns_free (s : State) (v : Ens) : (s.withEns v).free = s.free := rfl
@[simp] theorem State.withEns_pending (s : State) (v : Ens) : (s.withEns v).pending = s.pending := rfl
@[simp] theorem State.withEns_twice (s : State) (v w : Ens) : (s.withEns v).withEns w = s.withEns w := rfl
@[simp] theorem State.withEns_same (s : State) : s.withEns s.ens = s := rfl

@[simp] theorem State.withCku_cfl (s : State) (v : Cku) : (s.withCku v).cfl = s.cfl := rfl
@[simp] theorem State.withCku_prm (s : State) (v : Cku) : (s.withCku v).prm = s.prm := rfl
@[simp] theorem State.withCku_nbt (s : State) (v : Cku) : (s.withCku v).nbt = s.nbt := rfl
@[simp] theorem State.withCku_ast (s : State) (v : Cku) : (s.withCku v).ast = s.ast := rfl
@[simp] theorem State.withCku_hoe (s : State) (v : Cku) : (s.withCku v).hoe = s.hoe := rfl
@[simp] theorem State.withCku_ens (s : State) (v : Cku) : (s.withCku v).ens = s.ens := rfl
@[simp] theorem State.withCku_cku (s : State) (v : Cku) : (s.withCku v).cku = v := rfl
@[simp] theorem State.withCku_rpc (s : State) (v : Cku) : (s.withCku v).rpc = s.rpc := rfl
@[simp] theorem State.withCku_sls (s : State) (v : Cku) : (s.withCku v).sls = s.sls := rfl
@[simp] theorem State.withCku_sck (s : State) (v : Cku) : (s.withCku v).sck = s.sck := rfl
@[simp] theorem State.withCku_rbc (s : State) (v : Cku) : (s.withCku v).rbc = s.rbc := rfl
@[simp] theorem State.withCku_rsl (s : State) (v : Cku) : (s.withCku v).rsl = s.rsl := rfl
@[simp] theorem State.withCku_ntu (s : State) (v : Cku) : (s.withCku v).ntu = s.ntu := rfl
@[simp] theorem State.withCku_free (s : State) (v : Cku) : (s.withCku v).free = s.free := rfl
@[simp] theorem State.withCku_pending (s : State) (v : Cku) : (s.withCku v).pending = s.pending := rfl
@[simp] theorem State.withCku_twice (s : State) (v w : Cku) : (s.withCku v).withCku w = s.withCku w := rfl
@[simp] theorem State.withCku_same (s : State) : s.withCku s.cku = s := rfl

@[simp] theorem State.withRpc_cfl (s : State) (v : Rpc) : (s.withRpc v).cfl = s.cfl := rfl
@[simp] theorem State.withRpc_prm (s : State) (v : Rpc) : (s.withRpc v).prm = s.prm := rfl
@[simp] theorem State.withRpc_nbt (s : State) (v : Rpc) : (s.withRpc v).nbt = s.nbt := rfl
@[simp] theorem State.withRpc_ast (s : State) (v : Rpc) : (s.withRpc v).ast = s.ast := rfl
@[simp] theorem State.withRpc_hoe (s : State) (v : Rpc) : (s.withRpc v).hoe = s.hoe := rfl
@[simp] theorem State.withRpc_ens (s : State) (v : Rpc) : (s.withRpc v).ens = s.ens := rfl
@[simp] theorem State.withRpc_cku (s : State) (v : Rpc) : (s.withRpc v).cku = s.cku := rfl
@[simp] theorem State.withRpc_rpc (s : State) (v : Rpc) : (s.withRpc v).rpc = v := rfl
@[simp] theorem State.withRpc_sls (s : State) (v : Rpc) : (s.withRpc v).sls = s.sls := rfl
@[simp] theorem State.withRpc_sck (s : State) (v : Rpc) : (s.withRpc v).sck = s.sck := rfl
@[simp] theorem State.withRpc_rbc (s : State) (v : Rpc) : (s.withRpc v).rbc = s.rbc := rfl
@[simp] theorem State.withRpc_rsl (s : State) (v : Rpc) : (s.withRpc v).rsl = s.rsl := rfl
@[simp] theorem State.withRpc_ntu (s : State) (v : Rpc) : (s.withRpc v).ntu = s.ntu := rfl
@[simp] theorem State.withRpc_free (s : State) (v : Rpc) : (s.withRpc v).free = s.free := rfl
@[simp] theorem State.withRpc_pending (s : State) (v : Rpc) : (s.withRpc v).pending = s.pending := rfl
@[simp] theorem State.withRpc_twice (s : State) (v w : Rpc) : (s.withRpc v).withRpc w = s.withRpc w := rfl
@[simp] theorem State.withRpc_same (s : State) : s.withRpc s.rpc = s := rfl

@[simp] theorem State.withSls_cfl (s : State) (v : Sls) : (s.withSls v).cfl = s.cfl := rfl
@[simp] theorem State.withSls_prm (s : State) (v : Sls) : (s.withSls v).prm = s.prm := rfl
@[simp] theorem State.withSls_nbt (s : State) (v : Sls) : (s.withSls v).nbt = s.nbt := rfl
@[simp] theorem State.withSls_ast (s : State) (v : Sls) : (s.withSls v).ast = s.ast := rfl
@[simp] theorem State.withSls_hoe (s : State) (v : Sls) : (s.withSls v).hoe = s.hoe := rfl
@[simp] theorem State.withSls_ens (s : State) (v : Sls) : (s.withSls v).ens = s.ens := rfl
@[simp] theorem State.withSls_cku (s : State) (v : Sls) : (s.withSls v).cku = s.cku := rfl
@[simp] theorem State.withSls_rpc (s : State) (v : Sls) : (s.withSls v).rpc = s.rpc := rfl
@[simp] theorem State.withSls_sls (s : State) (v : Sls) : (s.withSls v).sls = v := rfl
@[simp] theorem State.withSls_sck (s : State) (v : Sls) : (s.withSls v).sck = s.sck := rfl
@[simp] theorem State.withSls_rbc (s : State) (v : Sls) : (s.withSls v).rbc = s.rbc := rfl
@[simp] theorem State.withSls_rsl (s : State) (v : Sls) : (s.withSls v).rsl = s.rsl := rfl
@[simp] theorem State.withSls_ntu (s : State) (v : Sls) : (s.withSls v).ntu = s.ntu := rfl
@[simp] theorem State.withSls_free (s : State) (v : Sls) : (s.withSls v).free = s.free := rfl
@[simp] theorem State.withSls_pending (s : State) (v : Sls) : (s.withSls v).pending = s.pending := rfl
@[simp] theorem State.withSls_twice (s : State) (v w : Sls) : (s.withSls v).withSls w = s.withSls w := rfl
@[simp] theorem State.withSls_same (s : State) : s.withSls s.sls = s := rfl

@[simp] theorem State.withSck_cfl (s : State) (v : Sck) : (s.withSck v).cfl = s.cfl := rfl
@[simp] theorem State.withSck_prm (s : State) (v : Sck) : (s.withSck v).prm = s.prm := rfl
@[simp] theorem State.withSck_nbt (s : State) (v : Sck) : (s.withSck v).nbt = s.nbt := rfl
@[simp] theorem State.withSck_ast (s : State) (v : Sck) : (s.withSck v).ast = s.ast := rfl
@[simp] theorem State.withSck_hoe (s : State) (v : Sck) : (s.withSck v).hoe = s.hoe := rfl
@[simp] theorem State.withSck_ens (s : State) (v : Sck) : (s.withSck v).ens = s.ens := rfl
@[simp] theorem State.withSck_cku (s : State) (v : Sck) : (s.withSck v).cku = s.cku := rfl
@[simp] theorem State.withSck_rpc (s : State) (v : Sck) : (s.withSck v).rpc = s.rpc := rfl
@[simp] theorem State.withSck_sls (s : State) (v : Sck) : (s.withSck v).sls = s.sls := rfl
@[simp] theorem State.withSck_sck (s : State) (v : Sck) : (s.withSck v).sck = v := rfl
@[simp] theorem State.withSck_rbc (s : State) (v : Sck) : (s.withSck v).rbc = s.rbc := rfl
@[simp] theorem State.withSck_rsl (s : State) (v : Sck) : (s.withSck v).rsl = s.rsl := rfl
@[simp] theorem State.withSck_ntu (s : State) (v : Sck) : (s.withSck v).ntu = s.ntu := rfl
@[simp] theorem State.withSck_free (s : State) (v : Sck) : (s.withSck v).free = s.free := rfl
@[simp] theorem State.withSck_pending (s : State) (v : Sck) : (s.withSck v).pending = s.pending := rfl
@[simp] theorem State.withSck_twice (s : State) (v w : Sck) : (s.withSck v).withSck w = s.withSck w := rfl
@[simp] theorem State.withSck_same (s : State) : s.withSck s.sck = s := rfl

@[simp] theorem State.withRbc_cfl (s : State) (v : Rbc) : (s.withRbc v).cfl = s.cfl := rfl
@[simp] theorem State.withRbc_prm (s : State) (v : Rbc) : (s.withRbc v).prm = s.prm := rfl
@[simp] theorem State.withRbc_nbt (s : State) (v : Rbc) : (s.withRbc v).nbt = s.nbt := rfl
@[simp] theorem State.withRbc_ast (s : State) (v : Rbc) : (s.withRbc v).ast = s.ast := rfl
@[simp] theorem State.withRbc_hoe (s : State) (v : Rbc) : (s.withRbc v).hoe = s.hoe := rfl
@[simp] theorem State.withRbc_ens (s : State) (v : Rbc) : (s.withRbc v).ens = s.ens := rfl
@[simp] theorem State.withRbc_cku (s : State) (v : Rbc) : (s.withRbc v).cku = s.cku := rfl
@[simp] theorem State.withRbc_rpc (s : State) (v : Rbc) : (s.withRbc v).rpc = s.rpc := rfl
@[simp] theorem State.withRbc_sls (s : State) (v : Rbc) : (s.withRbc v).sls = s.sls := rfl
@[simp] theorem State.withRbc_sck (s : State) (v : Rbc) : (s.withRbc v).sck = s.sck := rfl
@[simp] theorem State.withRbc_rbc (s : State) (v : Rbc) : (s.withRbc v).rbc = v := rfl
@[simp] theorem State.withRbc_rsl (s : State) (v : Rbc) : (s.withRbc v).rsl = s.rsl := rfl
@[simp] theorem State.withRbc_ntu (s : State) (v : Rbc) : (s.withRbc v).ntu = s.ntu := rfl
@[simp] theorem State.withRbc_free (s : State) (v : Rbc) : (s.withRbc v).free = s.free := rfl
@[simp] theorem State.withRbc_pending (s : State) (v : Rbc) : (s.withRbc v).pending = s.pending := rfl
@[simp] theorem State.withRbc_twice (s : State) (v w : Rbc) : (s.withRbc v).withRbc w = s.withRbc w := rfl
@[simp] theorem State.withRbc_same (s : State) : s.withRbc s.rbc = s := rfl

@[simp] theorem State.withRsl_cfl (s : State) (v : Rsl) : (s.withRsl v).cfl = s.cfl := rfl
@[simp] theorem State.withRsl_prm (s : State) (v : Rsl) : (s.withRsl v).prm = s.prm := rfl
@[simp] theorem State.withRsl_nbt (s : State) (v : Rsl) : (s.withRsl v).nbt = s.nbt := rfl
@[simp] theorem State.withRsl_ast (s : State) (v : Rsl) : (s.withRsl v).ast = s.ast := rfl
@[simp] theorem State.withRsl_hoe (s : State) (v : Rsl) : (s.withRsl v).hoe = s.hoe := rfl
@[simp] theorem State.withRsl_ens (s : State) (v : Rsl) : (s.withRsl v).ens = s.ens := rfl
@[simp] theorem State.withRsl_cku (s : State) (v : Rsl) : (s.withRsl v).cku = s.cku := rfl
@[simp] theorem State.withRsl_rpc (s : State) (v : Rsl) : (s.withRsl v).rpc = s.rpc := rfl
@[simp] theorem State.withRsl_sls (s : State) (v : Rsl) : (s.withRsl v).sls = s.sls := rfl
@[simp] theorem State.withRsl_sck (s : State) (v : Rsl) : (s.withRsl v).sck = s.sck := rfl
@[simp] theorem State.withRsl_rbc (s : State) (v : Rsl) : (s.withRsl v).rbc = s.rbc := rfl
@[simp] theorem State.withRsl_rsl (s : State) (v : Rsl) : (s.withRsl v).rsl = v := rfl
@[simp] theorem State.withRsl_ntu (s : State) (v : Rsl) : (s.withRsl v).ntu = s.ntu := rfl
@[simp] theorem State.withRsl_free (s : State) (v : Rsl) : (s.withRsl v).free = s.free := rfl
@[simp] theorem State.withRsl_pending (s : State) (v : Rsl) : (s.withRsl v).pending = s.pending := rfl
@[simp] theorem State.withRsl_twice (s : State) (v w : Rsl) : (s.withRsl v).withRsl w = s.withRsl w := rfl
@[simp] theorem State.withRsl_same (s : State) : s.withRsl s.rsl = s := rfl

@[simp] theorem State.withNtu_cfl (s : State) (v : Ntu) : (s.withNtu v).cfl = s.cfl := rfl
@[simp] theorem State.withNtu_prm (s : State) (v : Ntu) : (s.withNtu v).prm = s.prm := rfl
@[simp] theorem State.withNtu_nbt (s : State) (v : Ntu) : (s.withNtu v).nbt = s.nbt := rfl
@[simp] theorem State.withNtu_ast (s : State) (v : Ntu) : (s.withNtu v).ast = s.ast := rfl
@[simp] theorem State.withNtu_hoe (s : State) (v : Ntu) : (s.withNtu v).hoe = s.hoe := rfl
@[simp] theorem State.withNtu_ens (s : State) (v : Ntu) : (s.withNtu v).ens = s.ens := rfl
@[simp] theorem State.withNtu_cku (s : State) (v : Ntu) : (s.withNtu v).cku = s.cku := rfl
@[simp] theorem State.withNtu_rpc (s : State) (v : Ntu) : (s.withNtu v).rpc = s.rpc := rfl
@[simp] theorem State.withNtu_sls (s : State) (v : Ntu) : (s.withNtu v).sls = s.sls := rfl
@[simp] theorem State.withNtu_sck (s : State) (v : Ntu) : (s.withNtu v).sck = s.sck := rfl
@[simp] theorem State.withNtu_rbc (s : State) (v : Ntu) : (s.withNtu v).rbc = s.rbc := rfl
@[simp] theorem State.withNtu_rsl (s : State) (v : Ntu) : (s.withNtu v).rsl = s.rsl := rfl
@[simp] theorem State.withNtu_ntu (s : State) (v : Ntu) : (s.withNtu v).ntu = v := rfl
@[simp] theorem State.withNtu_free (s : State) (v : Ntu) : (s.withNtu v).free = s.free := rfl
@[simp] theorem State.withNtu_pending (s : State) (v : Ntu) : (s.withNtu v).pending = s.pending := rfl
@[simp] theorem State.withNtu_twice (s : State) (v w : Ntu) : (s.withNtu v).withNtu w = s.withNtu w := rfl
@[simp] theorem State.withNtu_same (s : State) : s.withNtu s.ntu = s := rfl

@[simp] theorem State.withFree_cfl (s : State) (v : Nat) : (s.withFree v).cfl = s.cfl := rfl
@[simp] theorem State.withFree_prm (s : State) (v : Nat) : (s.withFree v).prm = s.prm := rfl
@[simp] theorem State.withFree_nbt (s : State) (v : Nat) : (s.withFree v).nbt = s.nbt := rfl
@[simp] theorem State.withFree_ast (s : State) (v : Nat) : (s.withFree v).ast = s.ast := rfl
@[simp] theorem State.withFree_hoe (s : State) (v : Nat) : (s.withFree v).hoe = s.hoe := rfl
@[simp] theorem State.withFree_ens (s : State) (v : Nat) : (s.withFree v).ens = s.ens := rfl
@[simp] theorem State.withFree_cku (s : State) (v : Nat) : (s.withFree v).cku = s.cku := rfl
@[simp] theorem State.withFree_rpc (s : State) (v : Nat) : (s.withFree v).rpc = s.rpc := rfl
@[simp] theorem State.withFree_sls (s : State) (v : Nat) : (s.withFree v).sls = s.sls := rfl
@[simp] theorem State.withFree_sck (s : State) (v : Nat) : (s.withFree v).sck = s.sck := rfl
@[simp] theorem State.withFree_rbc (s : State) (v : Nat) : (s.withFree v).rbc = s.rbc := rfl
@[simp] theorem State.withFree_rsl (s : State) (v : Nat) : (s.withFree v).rsl = s.rsl := rfl
@[simp] theorem State.withFree_ntu (s : State) (v : Nat) : (s.withFree v).ntu = s.ntu := rfl
@[simp] theorem State.withFree_free (s : State) (v : Nat) : (s.withFree v).free = v := rfl
@[simp] theorem State.withFree_pending (s : State) (v : Nat) : (s.withFree v).pending = s.pending := rfl
@[simp] theorem State.withFree_twice (s : State) (v w : Nat) : (s.withFree v).withFree w = s.withFree w := rfl
@[simp] theorem State.withFree_same (s : State) : s.withFree s.free = s := rfl

@[simp] theorem State.withPending_cfl (s : State) (v : List Instr) : (s.withPending v).cfl = s.cfl := rfl
@[simp] theorem State.withPending_prm (s : State) (v : List Instr) : (s.withPending v).prm = s.prm := rfl
@[simp] theorem State.withPending_nbt (s : State) (v : List Instr) : (s.withPending v).nbt = s.nbt := rfl
@[simp] theorem State.withPending_ast (s : State) (v : List Instr) : (s.withPending v).ast = s.ast := rfl
@[simp] theorem State.withPending_hoe (s : State) (v : List Instr) : (s.withPending v).hoe = s.hoe := rfl
@[simp] theorem State.withPending_ens (s : State) (v : List Instr) : (s.withPending v).ens = s.ens := rfl
@[simp] theorem State.withPending_cku (s : State) (v : List Instr) : (s.withPending v).cku = s.cku := rfl
@[simp] theorem State.withPending_rpc (s : State) (v : List Instr) : (s.withPending v).rpc = s.rpc := rfl
@[simp] theorem State.withPending_sls (s : State) (v : List Instr) : (s.withPending v).sls = s.sls := rfl
@[simp] theorem State.withPending_sck (s : State) (v : List Instr) : (s.withPending v).sck = s.sck := rfl
@[simp] theorem State.withPending_rbc (s : State) (v : List Instr) : (s.withPending v).rbc = s.rbc := rfl
@[simp] theorem State.withPending_rsl (s : State) (v : List Instr) : (s.withPending v).rsl = s.rsl := rfl
@[simp] theorem State.withPending_ntu (s : State) (v : List Instr) : (s.withPending v).ntu = s.ntu := rfl
@[simp] theorem State.withPending_free (s : State) (v : List Instr) : (s.withPending v).free = s.free := rfl
@[simp] theorem State.withPending_pending (s : State) (v : List Instr) : (s.withPending v).pending = v := rfl
@[simp] theorem State.withPending_twice (s : State) (v w : List Instr) : (s.withPending v).withPending w = s.withPending w := rfl
@[simp] theorem State.withPending_same (s : State) : s.withPending s.pending = s := rfl

end Sys2Proof.Machine
end

