-- ==== Sys2Proof/Laws/Frames.lean ====
section
/-! SUPPORT. What each shared operation leaves as it was, block by block. -/

namespace Sys2Proof.Machine

/-! ## R186: an occurrence -/

@[simp] theorem raise_cfl (k : NoticeKind) (s : State) : (raise k s).cfl = s.cfl := rfl
@[simp] theorem raise_prm (k : NoticeKind) (s : State) : (raise k s).prm = s.prm := rfl
@[simp] theorem raise_nbt (k : NoticeKind) (s : State) : (raise k s).nbt = s.nbt := rfl
@[simp] theorem raise_ast (k : NoticeKind) (s : State) : (raise k s).ast = s.ast := rfl
@[simp] theorem raise_hoe (k : NoticeKind) (s : State) : (raise k s).hoe = s.hoe := rfl
@[simp] theorem raise_ens (k : NoticeKind) (s : State) : (raise k s).ens = s.ens := rfl
@[simp] theorem raise_cku (k : NoticeKind) (s : State) : (raise k s).cku = s.cku := rfl
@[simp] theorem raise_rpc (k : NoticeKind) (s : State) : (raise k s).rpc = s.rpc := rfl
@[simp] theorem raise_sls (k : NoticeKind) (s : State) : (raise k s).sls = s.sls := rfl
@[simp] theorem raise_sck (k : NoticeKind) (s : State) : (raise k s).sck = s.sck := rfl
@[simp] theorem raise_rbc (k : NoticeKind) (s : State) : (raise k s).rbc = s.rbc := rfl
@[simp] theorem raise_rsl (k : NoticeKind) (s : State) : (raise k s).rsl = s.rsl := rfl
@[simp] theorem raise_free (k : NoticeKind) (s : State) : (raise k s).free = s.free := rfl
@[simp] theorem raise_pending (k : NoticeKind) (s : State) : (raise k s).pending = s.pending := rfl

/-! ## R168: a request to queue a frame -/

@[simp] theorem queueFrame_cfl (d : Nat) (b : OutFrame) (s : State) : (queueFrame d b s).cfl = s.cfl := rfl
@[simp] theorem queueFrame_prm (d : Nat) (b : OutFrame) (s : State) : (queueFrame d b s).prm = s.prm := rfl
@[simp] theorem queueFrame_nbt (d : Nat) (b : OutFrame) (s : State) : (queueFrame d b s).nbt = s.nbt := rfl
@[simp] theorem queueFrame_ast (d : Nat) (b : OutFrame) (s : State) : (queueFrame d b s).ast = s.ast := rfl
@[simp] theorem queueFrame_hoe (d : Nat) (b : OutFrame) (s : State) : (queueFrame d b s).hoe = s.hoe := rfl
@[simp] theorem queueFrame_ens (d : Nat) (b : OutFrame) (s : State) : (queueFrame d b s).ens = s.ens := rfl
@[simp] theorem queueFrame_cku (d : Nat) (b : OutFrame) (s : State) : (queueFrame d b s).cku = s.cku := rfl
@[simp] theorem queueFrame_rpc (d : Nat) (b : OutFrame) (s : State) : (queueFrame d b s).rpc = s.rpc := rfl
@[simp] theorem queueFrame_sls (d : Nat) (b : OutFrame) (s : State) : (queueFrame d b s).sls = s.sls := rfl
@[simp] theorem queueFrame_sck (d : Nat) (b : OutFrame) (s : State) : (queueFrame d b s).sck = s.sck := rfl
@[simp] theorem queueFrame_rsl (d : Nat) (b : OutFrame) (s : State) : (queueFrame d b s).rsl = s.rsl := rfl
@[simp] theorem queueFrame_ntu (d : Nat) (b : OutFrame) (s : State) : (queueFrame d b s).ntu = s.ntu := rfl
@[simp] theorem queueFrame_free (d : Nat) (b : OutFrame) (s : State) : (queueFrame d b s).free = s.free := rfl
@[simp] theorem queueFrame_pending (d : Nat) (b : OutFrame) (s : State) : (queueFrame d b s).pending = s.pending := rfl

/-! ## R170: a withdrawal -/

@[simp] theorem withdrawFrame_cfl (t : Nat) (s : State) : (withdrawFrame t s).cfl = s.cfl := rfl
@[simp] theorem withdrawFrame_prm (t : Nat) (s : State) : (withdrawFrame t s).prm = s.prm := rfl
@[simp] theorem withdrawFrame_nbt (t : Nat) (s : State) : (withdrawFrame t s).nbt = s.nbt := rfl
@[simp] theorem withdrawFrame_ast (t : Nat) (s : State) : (withdrawFrame t s).ast = s.ast := rfl
@[simp] theorem withdrawFrame_hoe (t : Nat) (s : State) : (withdrawFrame t s).hoe = s.hoe := rfl
@[simp] theorem withdrawFrame_ens (t : Nat) (s : State) : (withdrawFrame t s).ens = s.ens := rfl
@[simp] theorem withdrawFrame_cku (t : Nat) (s : State) : (withdrawFrame t s).cku = s.cku := rfl
@[simp] theorem withdrawFrame_rpc (t : Nat) (s : State) : (withdrawFrame t s).rpc = s.rpc := rfl
@[simp] theorem withdrawFrame_sls (t : Nat) (s : State) : (withdrawFrame t s).sls = s.sls := rfl
@[simp] theorem withdrawFrame_sck (t : Nat) (s : State) : (withdrawFrame t s).sck = s.sck := rfl
@[simp] theorem withdrawFrame_rsl (t : Nat) (s : State) : (withdrawFrame t s).rsl = s.rsl := rfl
@[simp] theorem withdrawFrame_ntu (t : Nat) (s : State) : (withdrawFrame t s).ntu = s.ntu := rfl
@[simp] theorem withdrawFrame_free (t : Nat) (s : State) : (withdrawFrame t s).free = s.free := rfl
@[simp] theorem withdrawFrame_pending (t : Nat) (s : State) : (withdrawFrame t s).pending = s.pending := rfl

/-! ## R184: a placing on the message lane -/

@[simp] theorem placeOnLane_cfl (r : OutRecord) (s : State) : (placeOnLane r s).cfl = s.cfl := rfl
@[simp] theorem placeOnLane_prm (r : OutRecord) (s : State) : (placeOnLane r s).prm = s.prm := rfl
@[simp] theorem placeOnLane_nbt (r : OutRecord) (s : State) : (placeOnLane r s).nbt = s.nbt := rfl
@[simp] theorem placeOnLane_ast (r : OutRecord) (s : State) : (placeOnLane r s).ast = s.ast := rfl
@[simp] theorem placeOnLane_hoe (r : OutRecord) (s : State) : (placeOnLane r s).hoe = s.hoe := rfl
@[simp] theorem placeOnLane_ens (r : OutRecord) (s : State) : (placeOnLane r s).ens = s.ens := rfl
@[simp] theorem placeOnLane_cku (r : OutRecord) (s : State) : (placeOnLane r s).cku = s.cku := rfl
@[simp] theorem placeOnLane_rpc (r : OutRecord) (s : State) : (placeOnLane r s).rpc = s.rpc := rfl
@[simp] theorem placeOnLane_sls (r : OutRecord) (s : State) : (placeOnLane r s).sls = s.sls := rfl
@[simp] theorem placeOnLane_sck (r : OutRecord) (s : State) : (placeOnLane r s).sck = s.sck := rfl
@[simp] theorem placeOnLane_rbc (r : OutRecord) (s : State) : (placeOnLane r s).rbc = s.rbc := rfl
@[simp] theorem placeOnLane_ntu (r : OutRecord) (s : State) : (placeOnLane r s).ntu = s.ntu := rfl
@[simp] theorem placeOnLane_free (r : OutRecord) (s : State) : (placeOnLane r s).free = s.free := rfl
@[simp] theorem placeOnLane_pending (r : OutRecord) (s : State) : (placeOnLane r s).pending = s.pending := rfl

/-! ## R185: a placing on the slot lane -/

@[simp] theorem placeOnSlotLane_cfl (r : SlotOut) (s : State) : (placeOnSlotLane r s).cfl = s.cfl := rfl
@[simp] theorem placeOnSlotLane_prm (r : SlotOut) (s : State) : (placeOnSlotLane r s).prm = s.prm := rfl
@[simp] theorem placeOnSlotLane_nbt (r : SlotOut) (s : State) : (placeOnSlotLane r s).nbt = s.nbt := rfl
@[simp] theorem placeOnSlotLane_ast (r : SlotOut) (s : State) : (placeOnSlotLane r s).ast = s.ast := rfl
@[simp] theorem placeOnSlotLane_hoe (r : SlotOut) (s : State) : (placeOnSlotLane r s).hoe = s.hoe := rfl
@[simp] theorem placeOnSlotLane_ens (r : SlotOut) (s : State) : (placeOnSlotLane r s).ens = s.ens := rfl
@[simp] theorem placeOnSlotLane_cku (r : SlotOut) (s : State) : (placeOnSlotLane r s).cku = s.cku := rfl
@[simp] theorem placeOnSlotLane_rpc (r : SlotOut) (s : State) : (placeOnSlotLane r s).rpc = s.rpc := rfl
@[simp] theorem placeOnSlotLane_sls (r : SlotOut) (s : State) : (placeOnSlotLane r s).sls = s.sls := rfl
@[simp] theorem placeOnSlotLane_sck (r : SlotOut) (s : State) : (placeOnSlotLane r s).sck = s.sck := rfl
@[simp] theorem placeOnSlotLane_rbc (r : SlotOut) (s : State) : (placeOnSlotLane r s).rbc = s.rbc := rfl
@[simp] theorem placeOnSlotLane_ntu (r : SlotOut) (s : State) : (placeOnSlotLane r s).ntu = s.ntu := rfl
@[simp] theorem placeOnSlotLane_free (r : SlotOut) (s : State) : (placeOnSlotLane r s).free = s.free := rfl
@[simp] theorem placeOnSlotLane_pending (r : SlotOut) (s : State) : (placeOnSlotLane r s).pending = s.pending := rfl

/-! ## R181: the removal of the inbound queue's head -/

@[simp] theorem popRequest_cfl (s : State) : (popRequest s).cfl = s.cfl := rfl
@[simp] theorem popRequest_prm (s : State) : (popRequest s).prm = s.prm := rfl
@[simp] theorem popRequest_nbt (s : State) : (popRequest s).nbt = s.nbt := rfl
@[simp] theorem popRequest_ast (s : State) : (popRequest s).ast = s.ast := rfl
@[simp] theorem popRequest_hoe (s : State) : (popRequest s).hoe = s.hoe := rfl
@[simp] theorem popRequest_ens (s : State) : (popRequest s).ens = s.ens := rfl
@[simp] theorem popRequest_cku (s : State) : (popRequest s).cku = s.cku := rfl
@[simp] theorem popRequest_rpc (s : State) : (popRequest s).rpc = s.rpc := rfl
@[simp] theorem popRequest_sls (s : State) : (popRequest s).sls = s.sls := rfl
@[simp] theorem popRequest_sck (s : State) : (popRequest s).sck = s.sck := rfl
@[simp] theorem popRequest_rbc (s : State) : (popRequest s).rbc = s.rbc := rfl
@[simp] theorem popRequest_ntu (s : State) : (popRequest s).ntu = s.ntu := rfl
@[simp] theorem popRequest_free (s : State) : (popRequest s).free = s.free := rfl
@[simp] theorem popRequest_pending (s : State) : (popRequest s).pending = s.pending := rfl

/-! ## A change of a record -/

@[simp] theorem updateRecord_cfl (c : Nat) (f : Record → Record) (s : State) : (updateRecord c f s).cfl = s.cfl := rfl
@[simp] theorem updateRecord_prm (c : Nat) (f : Record → Record) (s : State) : (updateRecord c f s).prm = s.prm := rfl
@[simp] theorem updateRecord_nbt (c : Nat) (f : Record → Record) (s : State) : (updateRecord c f s).nbt = s.nbt := rfl
@[simp] theorem updateRecord_hoe (c : Nat) (f : Record → Record) (s : State) : (updateRecord c f s).hoe = s.hoe := rfl
@[simp] theorem updateRecord_ens (c : Nat) (f : Record → Record) (s : State) : (updateRecord c f s).ens = s.ens := rfl
@[simp] theorem updateRecord_cku (c : Nat) (f : Record → Record) (s : State) : (updateRecord c f s).cku = s.cku := rfl
@[simp] theorem updateRecord_rpc (c : Nat) (f : Record → Record) (s : State) : (updateRecord c f s).rpc = s.rpc := rfl
@[simp] theorem updateRecord_sls (c : Nat) (f : Record → Record) (s : State) : (updateRecord c f s).sls = s.sls := rfl
@[simp] theorem updateRecord_sck (c : Nat) (f : Record → Record) (s : State) : (updateRecord c f s).sck = s.sck := rfl
@[simp] theorem updateRecord_rbc (c : Nat) (f : Record → Record) (s : State) : (updateRecord c f s).rbc = s.rbc := rfl
@[simp] theorem updateRecord_rsl (c : Nat) (f : Record → Record) (s : State) : (updateRecord c f s).rsl = s.rsl := rfl
@[simp] theorem updateRecord_ntu (c : Nat) (f : Record → Record) (s : State) : (updateRecord c f s).ntu = s.ntu := rfl
@[simp] theorem updateRecord_free (c : Nat) (f : Record → Record) (s : State) : (updateRecord c f s).free = s.free := rfl
@[simp] theorem updateRecord_pending (c : Nat) (f : Record → Record) (s : State) : (updateRecord c f s).pending = s.pending :=
  rfl

/-! ## A change of an in-flight entry -/

@[simp] theorem updateInflight_cfl (c : Nat) (f : Inflight → Inflight) (s : State) : (updateInflight c f s).cfl = s.cfl :=
  rfl
@[simp] theorem updateInflight_prm (c : Nat) (f : Inflight → Inflight) (s : State) : (updateInflight c f s).prm = s.prm :=
  rfl
@[simp] theorem updateInflight_nbt (c : Nat) (f : Inflight → Inflight) (s : State) : (updateInflight c f s).nbt = s.nbt :=
  rfl
@[simp] theorem updateInflight_ast (c : Nat) (f : Inflight → Inflight) (s : State) : (updateInflight c f s).ast = s.ast :=
  rfl
@[simp] theorem updateInflight_ens (c : Nat) (f : Inflight → Inflight) (s : State) : (updateInflight c f s).ens = s.ens :=
  rfl
@[simp] theorem updateInflight_cku (c : Nat) (f : Inflight → Inflight) (s : State) : (updateInflight c f s).cku = s.cku :=
  rfl
@[simp] theorem updateInflight_rpc (c : Nat) (f : Inflight → Inflight) (s : State) : (updateInflight c f s).rpc = s.rpc :=
  rfl
@[simp] theorem updateInflight_sls (c : Nat) (f : Inflight → Inflight) (s : State) : (updateInflight c f s).sls = s.sls :=
  rfl
@[simp] theorem updateInflight_sck (c : Nat) (f : Inflight → Inflight) (s : State) : (updateInflight c f s).sck = s.sck :=
  rfl
@[simp] theorem updateInflight_rbc (c : Nat) (f : Inflight → Inflight) (s : State) : (updateInflight c f s).rbc = s.rbc :=
  rfl
@[simp] theorem updateInflight_rsl (c : Nat) (f : Inflight → Inflight) (s : State) : (updateInflight c f s).rsl = s.rsl :=
  rfl
@[simp] theorem updateInflight_ntu (c : Nat) (f : Inflight → Inflight) (s : State) : (updateInflight c f s).ntu = s.ntu :=
  rfl
@[simp] theorem updateInflight_free (c : Nat) (f : Inflight → Inflight) (s : State) : (updateInflight c f s).free = s.free :=
  rfl
@[simp] theorem updateInflight_pending (c : Nat) (f : Inflight → Inflight) (s : State) : (updateInflight c f s).pending = s.pending :=
  rfl

/-! ## A change of a stream entry -/

@[simp] theorem updateStream_cfl (i : Nat) (f : Stream → Stream) (s : State) : (updateStream i f s).cfl = s.cfl := rfl
@[simp] theorem updateStream_prm (i : Nat) (f : Stream → Stream) (s : State) : (updateStream i f s).prm = s.prm := rfl
@[simp] theorem updateStream_nbt (i : Nat) (f : Stream → Stream) (s : State) : (updateStream i f s).nbt = s.nbt := rfl
@[simp] theorem updateStream_ast (i : Nat) (f : Stream → Stream) (s : State) : (updateStream i f s).ast = s.ast := rfl
@[simp] theorem updateStream_hoe (i : Nat) (f : Stream → Stream) (s : State) : (updateStream i f s).hoe = s.hoe := rfl
@[simp] theorem updateStream_ens (i : Nat) (f : Stream → Stream) (s : State) : (updateStream i f s).ens = s.ens := rfl
@[simp] theorem updateStream_cku (i : Nat) (f : Stream → Stream) (s : State) : (updateStream i f s).cku = s.cku := rfl
@[simp] theorem updateStream_sls (i : Nat) (f : Stream → Stream) (s : State) : (updateStream i f s).sls = s.sls := rfl
@[simp] theorem updateStream_sck (i : Nat) (f : Stream → Stream) (s : State) : (updateStream i f s).sck = s.sck := rfl
@[simp] theorem updateStream_rbc (i : Nat) (f : Stream → Stream) (s : State) : (updateStream i f s).rbc = s.rbc := rfl
@[simp] theorem updateStream_rsl (i : Nat) (f : Stream → Stream) (s : State) : (updateStream i f s).rsl = s.rsl := rfl
@[simp] theorem updateStream_ntu (i : Nat) (f : Stream → Stream) (s : State) : (updateStream i f s).ntu = s.ntu := rfl
@[simp] theorem updateStream_free (i : Nat) (f : Stream → Stream) (s : State) : (updateStream i f s).free = s.free := rfl
@[simp] theorem updateStream_pending (i : Nat) (f : Stream → Stream) (s : State) : (updateStream i f s).pending = s.pending :=
  rfl

/-! ## R124: a gained subscriber -/

@[simp] theorem gainSubscriber_cfl (i : Nat) (s : State) : (gainSubscriber i s).cfl = s.cfl := rfl
@[simp] theorem gainSubscriber_prm (i : Nat) (s : State) : (gainSubscriber i s).prm = s.prm := rfl
@[simp] theorem gainSubscriber_nbt (i : Nat) (s : State) : (gainSubscriber i s).nbt = s.nbt := rfl
@[simp] theorem gainSubscriber_ast (i : Nat) (s : State) : (gainSubscriber i s).ast = s.ast := rfl
@[simp] theorem gainSubscriber_hoe (i : Nat) (s : State) : (gainSubscriber i s).hoe = s.hoe := rfl
@[simp] theorem gainSubscriber_ens (i : Nat) (s : State) : (gainSubscriber i s).ens = s.ens := rfl
@[simp] theorem gainSubscriber_cku (i : Nat) (s : State) : (gainSubscriber i s).cku = s.cku := rfl
@[simp] theorem gainSubscriber_sls (i : Nat) (s : State) : (gainSubscriber i s).sls = s.sls := rfl
@[simp] theorem gainSubscriber_sck (i : Nat) (s : State) : (gainSubscriber i s).sck = s.sck := rfl
@[simp] theorem gainSubscriber_rbc (i : Nat) (s : State) : (gainSubscriber i s).rbc = s.rbc := rfl
@[simp] theorem gainSubscriber_rsl (i : Nat) (s : State) : (gainSubscriber i s).rsl = s.rsl := rfl
@[simp] theorem gainSubscriber_ntu (i : Nat) (s : State) : (gainSubscriber i s).ntu = s.ntu := rfl
@[simp] theorem gainSubscriber_free (i : Nat) (s : State) : (gainSubscriber i s).free = s.free := rfl
@[simp] theorem gainSubscriber_pending (i : Nat) (s : State) : (gainSubscriber i s).pending = s.pending := rfl

/-! ## R125: a lost subscriber -/

@[simp] theorem loseSubscriber_cfl (i : Nat) (s : State) : (loseSubscriber i s).cfl = s.cfl := rfl
@[simp] theorem loseSubscriber_prm (i : Nat) (s : State) : (loseSubscriber i s).prm = s.prm := rfl
@[simp] theorem loseSubscriber_nbt (i : Nat) (s : State) : (loseSubscriber i s).nbt = s.nbt := rfl
@[simp] theorem loseSubscriber_ast (i : Nat) (s : State) : (loseSubscriber i s).ast = s.ast := rfl
@[simp] theorem loseSubscriber_hoe (i : Nat) (s : State) : (loseSubscriber i s).hoe = s.hoe := rfl
@[simp] theorem loseSubscriber_ens (i : Nat) (s : State) : (loseSubscriber i s).ens = s.ens := rfl
@[simp] theorem loseSubscriber_cku (i : Nat) (s : State) : (loseSubscriber i s).cku = s.cku := rfl
@[simp] theorem loseSubscriber_sls (i : Nat) (s : State) : (loseSubscriber i s).sls = s.sls := rfl
@[simp] theorem loseSubscriber_sck (i : Nat) (s : State) : (loseSubscriber i s).sck = s.sck := rfl
@[simp] theorem loseSubscriber_rbc (i : Nat) (s : State) : (loseSubscriber i s).rbc = s.rbc := rfl
@[simp] theorem loseSubscriber_rsl (i : Nat) (s : State) : (loseSubscriber i s).rsl = s.rsl := rfl
@[simp] theorem loseSubscriber_ntu (i : Nat) (s : State) : (loseSubscriber i s).ntu = s.ntu := rfl
@[simp] theorem loseSubscriber_free (i : Nat) (s : State) : (loseSubscriber i s).free = s.free := rfl
@[simp] theorem loseSubscriber_pending (i : Nat) (s : State) : (loseSubscriber i s).pending = s.pending := rfl

/-! ## R48, R105: a report of how far a frame has come -/

@[simp] theorem markFrame_cfl (t : Nat) (v : FrameStatus) (s : State) : (markFrame t v s).cfl = s.cfl := rfl
@[simp] theorem markFrame_prm (t : Nat) (v : FrameStatus) (s : State) : (markFrame t v s).prm = s.prm := rfl
@[simp] theorem markFrame_nbt (t : Nat) (v : FrameStatus) (s : State) : (markFrame t v s).nbt = s.nbt := rfl
@[simp] theorem markFrame_ast (t : Nat) (v : FrameStatus) (s : State) : (markFrame t v s).ast = s.ast := rfl
@[simp] theorem markFrame_ens (t : Nat) (v : FrameStatus) (s : State) : (markFrame t v s).ens = s.ens := rfl
@[simp] theorem markFrame_rpc (t : Nat) (v : FrameStatus) (s : State) : (markFrame t v s).rpc = s.rpc := rfl
@[simp] theorem markFrame_sls (t : Nat) (v : FrameStatus) (s : State) : (markFrame t v s).sls = s.sls := rfl
@[simp] theorem markFrame_sck (t : Nat) (v : FrameStatus) (s : State) : (markFrame t v s).sck = s.sck := rfl
@[simp] theorem markFrame_rbc (t : Nat) (v : FrameStatus) (s : State) : (markFrame t v s).rbc = s.rbc := rfl
@[simp] theorem markFrame_rsl (t : Nat) (v : FrameStatus) (s : State) : (markFrame t v s).rsl = s.rsl := rfl
@[simp] theorem markFrame_ntu (t : Nat) (v : FrameStatus) (s : State) : (markFrame t v s).ntu = s.ntu := rfl
@[simp] theorem markFrame_free (t : Nat) (v : FrameStatus) (s : State) : (markFrame t v s).free = s.free := rfl
@[simp] theorem markFrame_pending (t : Nat) (v : FrameStatus) (s : State) : (markFrame t v s).pending = s.pending := rfl

/-! ## R50: a record of the HOE -/

@[simp] theorem hoePlace_cfl (r : OutRecord) (s : State) : (hoePlace r s).cfl = s.cfl := by unfold hoePlace; split <;> rfl
@[simp] theorem hoePlace_prm (r : OutRecord) (s : State) : (hoePlace r s).prm = s.prm := by unfold hoePlace; split <;> rfl
@[simp] theorem hoePlace_nbt (r : OutRecord) (s : State) : (hoePlace r s).nbt = s.nbt := by unfold hoePlace; split <;> rfl
@[simp] theorem hoePlace_ast (r : OutRecord) (s : State) : (hoePlace r s).ast = s.ast := by unfold hoePlace; split <;> rfl
@[simp] theorem hoePlace_ens (r : OutRecord) (s : State) : (hoePlace r s).ens = s.ens := by unfold hoePlace; split <;> rfl
@[simp] theorem hoePlace_cku (r : OutRecord) (s : State) : (hoePlace r s).cku = s.cku := by unfold hoePlace; split <;> rfl
@[simp] theorem hoePlace_rpc (r : OutRecord) (s : State) : (hoePlace r s).rpc = s.rpc := by unfold hoePlace; split <;> rfl
@[simp] theorem hoePlace_sls (r : OutRecord) (s : State) : (hoePlace r s).sls = s.sls := by unfold hoePlace; split <;> rfl
@[simp] theorem hoePlace_sck (r : OutRecord) (s : State) : (hoePlace r s).sck = s.sck := by unfold hoePlace; split <;> rfl
@[simp] theorem hoePlace_rbc (r : OutRecord) (s : State) : (hoePlace r s).rbc = s.rbc := by unfold hoePlace; split <;> rfl
@[simp] theorem hoePlace_ntu (r : OutRecord) (s : State) : (hoePlace r s).ntu = s.ntu := by unfold hoePlace; split <;> rfl
@[simp] theorem hoePlace_free (r : OutRecord) (s : State) : (hoePlace r s).free = s.free := by unfold hoePlace; split <;> rfl
@[simp] theorem hoePlace_pending (r : OutRecord) (s : State) : (hoePlace r s).pending = s.pending :=
  by unfold hoePlace; split <;> rfl

/-! ## R112: a record of the CKU -/

@[simp] theorem ckuPlace_cfl (r : OutRecord) (s : State) : (ckuPlace r s).cfl = s.cfl := by unfold ckuPlace; split <;> rfl
@[simp] theorem ckuPlace_prm (r : OutRecord) (s : State) : (ckuPlace r s).prm = s.prm := by unfold ckuPlace; split <;> rfl
@[simp] theorem ckuPlace_nbt (r : OutRecord) (s : State) : (ckuPlace r s).nbt = s.nbt := by unfold ckuPlace; split <;> rfl
@[simp] theorem ckuPlace_ast (r : OutRecord) (s : State) : (ckuPlace r s).ast = s.ast := by unfold ckuPlace; split <;> rfl
@[simp] theorem ckuPlace_hoe (r : OutRecord) (s : State) : (ckuPlace r s).hoe = s.hoe := by unfold ckuPlace; split <;> rfl
@[simp] theorem ckuPlace_ens (r : OutRecord) (s : State) : (ckuPlace r s).ens = s.ens := by unfold ckuPlace; split <;> rfl
@[simp] theorem ckuPlace_rpc (r : OutRecord) (s : State) : (ckuPlace r s).rpc = s.rpc := by unfold ckuPlace; split <;> rfl
@[simp] theorem ckuPlace_sls (r : OutRecord) (s : State) : (ckuPlace r s).sls = s.sls := by unfold ckuPlace; split <;> rfl
@[simp] theorem ckuPlace_sck (r : OutRecord) (s : State) : (ckuPlace r s).sck = s.sck := by unfold ckuPlace; split <;> rfl
@[simp] theorem ckuPlace_rbc (r : OutRecord) (s : State) : (ckuPlace r s).rbc = s.rbc := by unfold ckuPlace; split <;> rfl
@[simp] theorem ckuPlace_ntu (r : OutRecord) (s : State) : (ckuPlace r s).ntu = s.ntu := by unfold ckuPlace; split <;> rfl
@[simp] theorem ckuPlace_free (r : OutRecord) (s : State) : (ckuPlace r s).free = s.free := by unfold ckuPlace; split <;> rfl
@[simp] theorem ckuPlace_pending (r : OutRecord) (s : State) : (ckuPlace r s).pending = s.pending :=
  by unfold ckuPlace; split <;> rfl

/-! ## R184: a record of the AST -/

@[simp] theorem astPlace_cfl (r : OutRecord) (s : State) : (astPlace r s).cfl = s.cfl := by unfold astPlace; split <;> rfl
@[simp] theorem astPlace_prm (r : OutRecord) (s : State) : (astPlace r s).prm = s.prm := by unfold astPlace; split <;> rfl
@[simp] theorem astPlace_nbt (r : OutRecord) (s : State) : (astPlace r s).nbt = s.nbt := by unfold astPlace; split <;> rfl
@[simp] theorem astPlace_ast (r : OutRecord) (s : State) : (astPlace r s).ast = s.ast := by unfold astPlace; split <;> rfl
@[simp] theorem astPlace_hoe (r : OutRecord) (s : State) : (astPlace r s).hoe = s.hoe := by unfold astPlace; split <;> rfl
@[simp] theorem astPlace_ens (r : OutRecord) (s : State) : (astPlace r s).ens = s.ens := by unfold astPlace; split <;> rfl
@[simp] theorem astPlace_cku (r : OutRecord) (s : State) : (astPlace r s).cku = s.cku := by unfold astPlace; split <;> rfl
@[simp] theorem astPlace_rpc (r : OutRecord) (s : State) : (astPlace r s).rpc = s.rpc := by unfold astPlace; split <;> rfl
@[simp] theorem astPlace_sls (r : OutRecord) (s : State) : (astPlace r s).sls = s.sls := by unfold astPlace; split <;> rfl
@[simp] theorem astPlace_sck (r : OutRecord) (s : State) : (astPlace r s).sck = s.sck := by unfold astPlace; split <;> rfl
@[simp] theorem astPlace_rbc (r : OutRecord) (s : State) : (astPlace r s).rbc = s.rbc := by unfold astPlace; split <;> rfl
@[simp] theorem astPlace_ntu (r : OutRecord) (s : State) : (astPlace r s).ntu = s.ntu := by unfold astPlace; split <;> rfl
@[simp] theorem astPlace_free (r : OutRecord) (s : State) : (astPlace r s).free = s.free := by unfold astPlace; split <;> rfl
@[simp] theorem astPlace_pending (r : OutRecord) (s : State) : (astPlace r s).pending = s.pending :=
  by unfold astPlace; split <;> rfl

/-! ## R10: an advert -/

@[simp] theorem queueAdvert_cfl (s : State) : (queueAdvert s).cfl = s.cfl :=
  by unfold queueAdvert; cases s.cfl.config <;> simp; split <;> rfl
@[simp] theorem queueAdvert_nbt (s : State) : (queueAdvert s).nbt = s.nbt :=
  by unfold queueAdvert; cases s.cfl.config <;> simp; split <;> rfl
@[simp] theorem queueAdvert_ast (s : State) : (queueAdvert s).ast = s.ast :=
  by unfold queueAdvert; cases s.cfl.config <;> simp; split <;> rfl
@[simp] theorem queueAdvert_hoe (s : State) : (queueAdvert s).hoe = s.hoe :=
  by unfold queueAdvert; cases s.cfl.config <;> simp; split <;> rfl
@[simp] theorem queueAdvert_ens (s : State) : (queueAdvert s).ens = s.ens :=
  by unfold queueAdvert; cases s.cfl.config <;> simp; split <;> rfl
@[simp] theorem queueAdvert_cku (s : State) : (queueAdvert s).cku = s.cku :=
  by unfold queueAdvert; cases s.cfl.config <;> simp; split <;> rfl
@[simp] theorem queueAdvert_rpc (s : State) : (queueAdvert s).rpc = s.rpc :=
  by unfold queueAdvert; cases s.cfl.config <;> simp; split <;> rfl
@[simp] theorem queueAdvert_sls (s : State) : (queueAdvert s).sls = s.sls :=
  by unfold queueAdvert; cases s.cfl.config <;> simp; split <;> rfl
@[simp] theorem queueAdvert_sck (s : State) : (queueAdvert s).sck = s.sck :=
  by unfold queueAdvert; cases s.cfl.config <;> simp; split <;> rfl
@[simp] theorem queueAdvert_rsl (s : State) : (queueAdvert s).rsl = s.rsl :=
  by unfold queueAdvert; cases s.cfl.config <;> simp; split <;> rfl
@[simp] theorem queueAdvert_ntu (s : State) : (queueAdvert s).ntu = s.ntu :=
  by unfold queueAdvert; cases s.cfl.config <;> simp; split <;> rfl
@[simp] theorem queueAdvert_free (s : State) : (queueAdvert s).free = s.free :=
  by unfold queueAdvert; cases s.cfl.config <;> simp; split <;> rfl
@[simp] theorem queueAdvert_pending (s : State) : (queueAdvert s).pending = s.pending :=
  by unfold queueAdvert; cases s.cfl.config <;> simp; split <;> rfl

/-! ## R12: the change trigger -/

@[simp] theorem triggerAdvert_cfl (s : State) : (triggerAdvert s).cfl = s.cfl := by unfold triggerAdvert; split <;> simp
@[simp] theorem triggerAdvert_nbt (s : State) : (triggerAdvert s).nbt = s.nbt := by unfold triggerAdvert; split <;> simp
@[simp] theorem triggerAdvert_ast (s : State) : (triggerAdvert s).ast = s.ast := by unfold triggerAdvert; split <;> simp
@[simp] theorem triggerAdvert_hoe (s : State) : (triggerAdvert s).hoe = s.hoe := by unfold triggerAdvert; split <;> simp
@[simp] theorem triggerAdvert_ens (s : State) : (triggerAdvert s).ens = s.ens := by unfold triggerAdvert; split <;> simp
@[simp] theorem triggerAdvert_cku (s : State) : (triggerAdvert s).cku = s.cku := by unfold triggerAdvert; split <;> simp
@[simp] theorem triggerAdvert_rpc (s : State) : (triggerAdvert s).rpc = s.rpc := by unfold triggerAdvert; split <;> simp
@[simp] theorem triggerAdvert_sls (s : State) : (triggerAdvert s).sls = s.sls := by unfold triggerAdvert; split <;> simp
@[simp] theorem triggerAdvert_sck (s : State) : (triggerAdvert s).sck = s.sck := by unfold triggerAdvert; split <;> simp
@[simp] theorem triggerAdvert_rsl (s : State) : (triggerAdvert s).rsl = s.rsl := by unfold triggerAdvert; split <;> simp
@[simp] theorem triggerAdvert_ntu (s : State) : (triggerAdvert s).ntu = s.ntu := by unfold triggerAdvert; split <;> simp
@[simp] theorem triggerAdvert_free (s : State) : (triggerAdvert s).free = s.free := by unfold triggerAdvert; split <;> simp
@[simp] theorem triggerAdvert_pending (s : State) : (triggerAdvert s).pending = s.pending :=
  by unfold triggerAdvert; split <;> simp

/-! ## R4: a recompute -/

@[simp] theorem recompute_cfl (s : State) : (recompute s).cfl = s.cfl :=
  by unfold recompute; cases s.cfl.config <;> simp; split <;> split <;> simp
@[simp] theorem recompute_nbt (s : State) : (recompute s).nbt = s.nbt :=
  by unfold recompute; cases s.cfl.config <;> simp; split <;> split <;> simp
@[simp] theorem recompute_ast (s : State) : (recompute s).ast = s.ast :=
  by unfold recompute; cases s.cfl.config <;> simp; split <;> split <;> simp
@[simp] theorem recompute_hoe (s : State) : (recompute s).hoe = s.hoe :=
  by unfold recompute; cases s.cfl.config <;> simp; split <;> split <;> simp
@[simp] theorem recompute_ens (s : State) : (recompute s).ens = s.ens :=
  by unfold recompute; cases s.cfl.config <;> simp; split <;> split <;> simp
@[simp] theorem recompute_cku (s : State) : (recompute s).cku = s.cku :=
  by unfold recompute; cases s.cfl.config <;> simp; split <;> split <;> simp
@[simp] theorem recompute_rpc (s : State) : (recompute s).rpc = s.rpc :=
  by unfold recompute; cases s.cfl.config <;> simp; split <;> split <;> simp
@[simp] theorem recompute_sls (s : State) : (recompute s).sls = s.sls :=
  by unfold recompute; cases s.cfl.config <;> simp; split <;> split <;> simp
@[simp] theorem recompute_sck (s : State) : (recompute s).sck = s.sck :=
  by unfold recompute; cases s.cfl.config <;> simp; split <;> split <;> simp
@[simp] theorem recompute_rsl (s : State) : (recompute s).rsl = s.rsl :=
  by unfold recompute; cases s.cfl.config <;> simp; split <;> split <;> simp
@[simp] theorem recompute_free (s : State) : (recompute s).free = s.free :=
  by unfold recompute; cases s.cfl.config <;> simp; split <;> split <;> simp
@[simp] theorem recompute_pending (s : State) : (recompute s).pending = s.pending :=
  by unfold recompute; cases s.cfl.config <;> simp; split <;> split <;> simp

/-! ## R49: the end of an in-flight entry -/

@[simp] theorem dropInflight_cfl (c : Nat) (s : State) : (dropInflight c s).cfl = s.cfl :=
  by unfold dropInflight; cases findInflight c s <;> simp; split <;> rfl
@[simp] theorem dropInflight_prm (c : Nat) (s : State) : (dropInflight c s).prm = s.prm :=
  by unfold dropInflight; cases findInflight c s <;> simp; split <;> rfl
@[simp] theorem dropInflight_nbt (c : Nat) (s : State) : (dropInflight c s).nbt = s.nbt :=
  by unfold dropInflight; cases findInflight c s <;> simp; split <;> rfl
@[simp] theorem dropInflight_ast (c : Nat) (s : State) : (dropInflight c s).ast = s.ast :=
  by unfold dropInflight; cases findInflight c s <;> simp; split <;> rfl
@[simp] theorem dropInflight_ens (c : Nat) (s : State) : (dropInflight c s).ens = s.ens :=
  by unfold dropInflight; cases findInflight c s <;> simp; split <;> rfl
@[simp] theorem dropInflight_cku (c : Nat) (s : State) : (dropInflight c s).cku = s.cku :=
  by unfold dropInflight; cases findInflight c s <;> simp; split <;> rfl
@[simp] theorem dropInflight_rpc (c : Nat) (s : State) : (dropInflight c s).rpc = s.rpc :=
  by unfold dropInflight; cases findInflight c s <;> simp; split <;> rfl
@[simp] theorem dropInflight_sls (c : Nat) (s : State) : (dropInflight c s).sls = s.sls :=
  by unfold dropInflight; cases findInflight c s <;> simp; split <;> rfl
@[simp] theorem dropInflight_sck (c : Nat) (s : State) : (dropInflight c s).sck = s.sck :=
  by unfold dropInflight; cases findInflight c s <;> simp; split <;> rfl
@[simp] theorem dropInflight_rsl (c : Nat) (s : State) : (dropInflight c s).rsl = s.rsl :=
  by unfold dropInflight; cases findInflight c s <;> simp; split <;> rfl
@[simp] theorem dropInflight_ntu (c : Nat) (s : State) : (dropInflight c s).ntu = s.ntu :=
  by unfold dropInflight; cases findInflight c s <;> simp; split <;> rfl
@[simp] theorem dropInflight_free (c : Nat) (s : State) : (dropInflight c s).free = s.free :=
  by unfold dropInflight; cases findInflight c s <;> simp; split <;> rfl
@[simp] theorem dropInflight_pending (c : Nat) (s : State) : (dropInflight c s).pending = s.pending :=
  by unfold dropInflight; cases findInflight c s <;> simp; split <;> rfl

/-! ## R105: the end of a pending claim -/

@[simp] theorem dropClaim_cfl (c : Nat) (s : State) : (dropClaim c s).cfl = s.cfl :=
  by unfold dropClaim; cases findClaim c s <;> simp; split <;> rfl
@[simp] theorem dropClaim_prm (c : Nat) (s : State) : (dropClaim c s).prm = s.prm :=
  by unfold dropClaim; cases findClaim c s <;> simp; split <;> rfl
@[simp] theorem dropClaim_nbt (c : Nat) (s : State) : (dropClaim c s).nbt = s.nbt :=
  by unfold dropClaim; cases findClaim c s <;> simp; split <;> rfl
@[simp] theorem dropClaim_ast (c : Nat) (s : State) : (dropClaim c s).ast = s.ast :=
  by unfold dropClaim; cases findClaim c s <;> simp; split <;> rfl
@[simp] theorem dropClaim_hoe (c : Nat) (s : State) : (dropClaim c s).hoe = s.hoe :=
  by unfold dropClaim; cases findClaim c s <;> simp; split <;> rfl
@[simp] theorem dropClaim_ens (c : Nat) (s : State) : (dropClaim c s).ens = s.ens :=
  by unfold dropClaim; cases findClaim c s <;> simp; split <;> rfl
@[simp] theorem dropClaim_rpc (c : Nat) (s : State) : (dropClaim c s).rpc = s.rpc :=
  by unfold dropClaim; cases findClaim c s <;> simp; split <;> rfl
@[simp] theorem dropClaim_sls (c : Nat) (s : State) : (dropClaim c s).sls = s.sls :=
  by unfold dropClaim; cases findClaim c s <;> simp; split <;> rfl
@[simp] theorem dropClaim_sck (c : Nat) (s : State) : (dropClaim c s).sck = s.sck :=
  by unfold dropClaim; cases findClaim c s <;> simp; split <;> rfl
@[simp] theorem dropClaim_rsl (c : Nat) (s : State) : (dropClaim c s).rsl = s.rsl :=
  by unfold dropClaim; cases findClaim c s <;> simp; split <;> rfl
@[simp] theorem dropClaim_ntu (c : Nat) (s : State) : (dropClaim c s).ntu = s.ntu :=
  by unfold dropClaim; cases findClaim c s <;> simp; split <;> rfl
@[simp] theorem dropClaim_free (c : Nat) (s : State) : (dropClaim c s).free = s.free :=
  by unfold dropClaim; cases findClaim c s <;> simp; split <;> rfl
@[simp] theorem dropClaim_pending (c : Nat) (s : State) : (dropClaim c s).pending = s.pending :=
  by unfold dropClaim; cases findClaim c s <;> simp; split <;> rfl

/-! ## R37, step 2: lost subscribers -/

@[simp] theorem loseAll_cfl (l : List Nat) (s : State) : (loseAll l s).cfl = s.cfl :=
  by induction l generalizing s with | nil => rfl | cons a l ih => exact ih _
@[simp] theorem loseAll_prm (l : List Nat) (s : State) : (loseAll l s).prm = s.prm :=
  by induction l generalizing s with | nil => rfl | cons a l ih => exact ih _
@[simp] theorem loseAll_nbt (l : List Nat) (s : State) : (loseAll l s).nbt = s.nbt :=
  by induction l generalizing s with | nil => rfl | cons a l ih => exact ih _
@[simp] theorem loseAll_ast (l : List Nat) (s : State) : (loseAll l s).ast = s.ast :=
  by induction l generalizing s with | nil => rfl | cons a l ih => exact ih _
@[simp] theorem loseAll_hoe (l : List Nat) (s : State) : (loseAll l s).hoe = s.hoe :=
  by induction l generalizing s with | nil => rfl | cons a l ih => exact ih _
@[simp] theorem loseAll_ens (l : List Nat) (s : State) : (loseAll l s).ens = s.ens :=
  by induction l generalizing s with | nil => rfl | cons a l ih => exact ih _
@[simp] theorem loseAll_cku (l : List Nat) (s : State) : (loseAll l s).cku = s.cku :=
  by induction l generalizing s with | nil => rfl | cons a l ih => exact ih _
@[simp] theorem loseAll_sls (l : List Nat) (s : State) : (loseAll l s).sls = s.sls :=
  by induction l generalizing s with | nil => rfl | cons a l ih => exact ih _
@[simp] theorem loseAll_sck (l : List Nat) (s : State) : (loseAll l s).sck = s.sck :=
  by induction l generalizing s with | nil => rfl | cons a l ih => exact ih _
@[simp] theorem loseAll_rbc (l : List Nat) (s : State) : (loseAll l s).rbc = s.rbc :=
  by induction l generalizing s with | nil => rfl | cons a l ih => exact ih _
@[simp] theorem loseAll_rsl (l : List Nat) (s : State) : (loseAll l s).rsl = s.rsl :=
  by induction l generalizing s with | nil => rfl | cons a l ih => exact ih _
@[simp] theorem loseAll_ntu (l : List Nat) (s : State) : (loseAll l s).ntu = s.ntu :=
  by induction l generalizing s with | nil => rfl | cons a l ih => exact ih _
@[simp] theorem loseAll_free (l : List Nat) (s : State) : (loseAll l s).free = s.free :=
  by induction l generalizing s with | nil => rfl | cons a l ih => exact ih _
@[simp] theorem loseAll_pending (l : List Nat) (s : State) : (loseAll l s).pending = s.pending :=
  by induction l generalizing s with | nil => rfl | cons a l ih => exact ih _

/-! ## R37: a removal -/

@[simp] theorem removeRecord_cfl (c : Nat) (s : State) : (removeRecord c s).cfl = s.cfl :=
  by unfold removeRecord; cases findRecord c s <;> simp; split <;> simp
@[simp] theorem removeRecord_nbt (c : Nat) (s : State) : (removeRecord c s).nbt = s.nbt :=
  by unfold removeRecord; cases findRecord c s <;> simp; split <;> simp
@[simp] theorem removeRecord_ens (c : Nat) (s : State) : (removeRecord c s).ens = s.ens :=
  by unfold removeRecord; cases findRecord c s <;> simp; split <;> simp
@[simp] theorem removeRecord_sls (c : Nat) (s : State) : (removeRecord c s).sls = s.sls :=
  by unfold removeRecord; cases findRecord c s <;> simp; split <;> simp
@[simp] theorem removeRecord_sck (c : Nat) (s : State) : (removeRecord c s).sck = s.sck :=
  by unfold removeRecord; cases findRecord c s <;> simp; split <;> simp
@[simp] theorem removeRecord_rsl (c : Nat) (s : State) : (removeRecord c s).rsl = s.rsl :=
  by unfold removeRecord; cases findRecord c s <;> simp; split <;> simp
@[simp] theorem removeRecord_free (c : Nat) (s : State) : (removeRecord c s).free = s.free :=
  by unfold removeRecord; cases findRecord c s <;> simp; split <;> simp
@[simp] theorem removeRecord_pending (c : Nat) (s : State) : (removeRecord c s).pending = s.pending :=
  by unfold removeRecord; cases findRecord c s <;> simp; split <;> simp

end Sys2Proof.Machine
end

