-- ==== Sys2Proof/Laws/Ops.lean ====
section
/-! SUPPORT. What each shared operation does, said once: the bus queues, the lanes, the notices, the recompute, the records and the
entries. -/

namespace Sys2Proof.Machine

/-! ## The bus queues (R168 to R170) -/

/-- R168, first row: outside JOINED a frame is refused and nothing is counted. -/
theorem queueFrame_not_joined (d : Nat) (b : OutFrame) (s : State) (h : s.cfl.node ≠ .joined) :
    queueFrame d b s = s ∧ queueAnswer d b s = none := by
  simp [queueFrame, queueAnswer, Rbc.offer, h]

/-- R168, third row, for the URGENT queue. -/
theorem queueFrame_urgent (d : Nat) (b : OutFrame) (s : State) (hj : s.cfl.node = .joined) (hu : b.isUrgent = true)
    (ha : b.isAdvert = false) (hr : s.rbc.urgent.length < 8) :
    queueAnswer d b s = some s.rbc.nextTag ∧
      queueFrame d b s = s.withRbc { s.rbc with urgent := s.rbc.urgent ++ [{ tag := s.rbc.nextTag, dest := d, body := b }],
                                                nextTag := s.rbc.nextTag + 1 } := by
  simp [queueFrame, queueAnswer, Rbc.offer, hj, hu, ha, queueLimit, hr]

/-- R168, last row, for the URGENT queue. -/
theorem queueFrame_urgent_full (d : Nat) (b : OutFrame) (s : State) (hj : s.cfl.node = .joined)
    (hu : b.isUrgent = true) (ha : b.isAdvert = false) (hr : 8 ≤ s.rbc.urgent.length) :
    queueAnswer d b s = none ∧
      queueFrame d b s = s.withRbc { s.rbc with txDrops := count16 s.rbc.txDrops } := by
  simp [queueFrame, queueAnswer, Rbc.offer, hj, hu, ha, queueLimit, Nat.not_lt.2 hr]

theorem replaceAdvert_length (f : TxFrame) (q : List TxFrame) : (replaceAdvert f q).length = q.length := by
  simp [replaceAdvert]

/-- R168: no request to queue makes a queue longer than 8. -/
theorem offer_bounds (j : Bool) (d : Nat) (b : OutFrame) (r : Rbc) (hu : r.urgent.length ≤ 8)
    (hr : r.routine.length ≤ 8) :
    (r.offer j d b).1.urgent.length ≤ 8 ∧ (r.offer j d b).1.routine.length ≤ 8 := by
  unfold Rbc.offer queueLimit
  dsimp only
  repeat' split
  all_goals simp [replaceAdvert_length]
  all_goals omega

/-- What a request to queue can change of the RBC. -/
theorem offer_frame (j : Bool) (d : Nat) (b : OutFrame) (r : Rbc) :
    (r.offer j d b).1 = { r with
      urgent := (r.offer j d b).1.urgent, routine := (r.offer j d b).1.routine,
      txDrops := (r.offer j d b).1.txDrops, nextTag := (r.offer j d b).1.nextTag } := by
  unfold Rbc.offer
  dsimp only
  repeat' split
  all_goals rfl

/-- A ROUTINE frame leaves the URGENT queue as it was. -/
theorem offer_routine (j : Bool) (d : Nat) (b : OutFrame) (r : Rbc) (hb : b.isUrgent = false) :
    (r.offer j d b).1.urgent = r.urgent := by
  unfold Rbc.offer
  simp only [hb]
  repeat' split
  all_goals first | rfl | contradiction

/-- R170: a withdrawal makes no queue longer. -/
theorem withdraw_bounds (t : Nat) (r : Rbc) :
    (r.withdraw t).urgent.length ≤ r.urgent.length ∧ (r.withdraw t).routine.length ≤ r.routine.length :=
  ⟨List.length_filter_le _ _, List.length_filter_le _ _⟩

/-! ## The lanes (R183 to R185) -/

/-- Beginning to send changes no lane, no queue and no counter. -/
theorem startSending_same (r : Rsl) :
    r.startSending.lane = r.lane ∧ r.startSending.slotLane = r.slotLane ∧ r.startSending.inbound = r.inbound ∧
      r.startSending.astBacklog = r.astBacklog ∧ r.startSending.linkErrors = r.linkErrors ∧
      r.startSending.basebandReady = r.basebandReady := by
  unfold Rsl.startSending
  split
  · split <;> simp
  · simp

@[simp] theorem placeOnLane_lane (r : OutRecord) (s : State) : (placeOnLane r s).rsl.lane = s.rsl.lane ++ [r] :=
  (startSending_same _).1

@[simp] theorem placeOnLane_inbound (r : OutRecord) (s : State) : (placeOnLane r s).rsl.inbound = s.rsl.inbound :=
  (startSending_same _).2.2.1

@[simp] theorem placeOnLane_astBacklog (r : OutRecord) (s : State) :
    (placeOnLane r s).rsl.astBacklog = s.rsl.astBacklog := (startSending_same _).2.2.2.1

@[simp] theorem placeOnSlotLane_slotLane (r : SlotOut) (s : State) :
    (placeOnSlotLane r s).rsl.slotLane = s.rsl.slotLane ++ [r] := (startSending_same _).2.1

/-- R50: a record of the HOE goes to the lane, or to the tail of the backlog. -/
theorem hoePlace_cases (r : OutRecord) (s : State) :
    (hoePlace r s = placeOnLane r s ∧ s.rsl.lane.length < 64 ∧ s.hoe.backlog = []) ∨
      (hoePlace r s = s.withHoe { s.hoe with backlog := s.hoe.backlog ++ [r] } ∧
        (64 ≤ s.rsl.lane.length ∨ s.hoe.backlog ≠ [])) := by
  unfold hoePlace laneRoom laneLimit
  split <;> rename_i h
  · exact .inl ⟨rfl, by omega, h.2⟩
  · refine .inr ⟨rfl, ?_⟩
    by_cases hb : s.hoe.backlog = []
    · simp [hb] at h; exact .inl (by omega)
    · exact .inr hb

/-! ## Notices (R186) -/

theorem modify_find (l : List NoticeCell) (k : NoticeKind) (f : NoticeCell → NoticeCell)
    (hf : ∀ c, (f c).kind = c.kind) :
    (l.map fun c => if c.kind = k then f c else c).find? (fun c => c.kind == k) =
      (l.find? fun c => c.kind == k).map f := by
  induction l with
  | nil => rfl
  | cons c cs ih =>
    by_cases h : c.kind = k
    · simp [h, hf]
    · simp [h, ih]

/-- R186: an occurrence of a kind that the unit holds sets its pending flag and counts it. -/
theorem occur_cell (n : Ntu) (k : NoticeKind) (h : (n.kinds.find? fun c => c.kind == k).isSome) :
    (n.occur k).cell k = (n.cell k).occur := by
  obtain ⟨c, hc⟩ := Option.isSome_iff_exists.1 h
  have hm := modify_find n.kinds k NoticeCell.occur fun _ => rfl
  simp [Ntu.occur, Ntu.cell, Ntu.modify, hm, hc]

/-- R186: an occurrence sets a group flag exactly when the pending flag was clear and the enable on. -/
theorem occur_groups (n : Ntu) (k : NoticeKind) :
    (n.occur k).groups =
      if (n.cell k).pending = false ∧ (n.cell k).enabled = true then n.groups.put k.group true else n.groups := by
  unfold Ntu.occur Ntu.modify
  cases (n.cell k).pending <;> cases (n.cell k).enabled <;> simp

/-! ## The recompute (R4) -/

/-- An advert leaves the pressure, the monitor, the restore hold and the advert timer as they were. -/
theorem queueAdvert_prm (s : State) :
    (queueAdvert s).prm.pressure = s.prm.pressure ∧ (queueAdvert s).prm.monitor = s.prm.monitor ∧
      (queueAdvert s).prm.restoreHold = s.prm.restoreHold ∧ (queueAdvert s).prm.advertTimer = s.prm.advertTimer := by
  unfold queueAdvert
  split
  · simp
  · split <;> simp

theorem triggerAdvert_prm (s : State) :
    (triggerAdvert s).prm.pressure = s.prm.pressure ∧ (triggerAdvert s).prm.monitor = s.prm.monitor ∧
      (triggerAdvert s).prm.restoreHold = s.prm.restoreHold ∧
      (triggerAdvert s).prm.advertTimer = s.prm.advertTimer := by
  unfold triggerAdvert
  split
  · exact queueAdvert_prm s
  · simp

/-- R2, R3, R7: a recompute stores the pressure of the inputs and one evaluation of the monitor. -/
theorem recompute_prm (c : NodeConfig) (s : State) (h : s.cfl.config = some c) :
    (recompute s).prm.pressure = pressureOf c s.clients s.assigned ∧
      (recompute s).prm.monitor = s.prm.monitor.evaluate c (pressureOf c s.clients s.assigned) ∧
      (recompute s).prm.restoreHold =
        restoreHoldAfter s.prm.monitor (s.prm.monitor.evaluate c (pressureOf c s.clients s.assigned))
          s.prm.restoreHold ∧
      (recompute s).prm.advertTimer = s.prm.advertTimer := by
  unfold recompute
  simp only [h]
  split <;> split <;> simp [triggerAdvert_prm]

/-- R7: the notice of the transition, if the evaluation makes one. -/
theorem recompute_ntu (c : NodeConfig) (s : State) (h : s.cfl.config = some c) :
    (recompute s).ntu =
      if s.prm.monitor = (recompute s).prm.monitor then s.ntu else s.ntu.occur (recompute s).prm.monitor.notice := by
  rw [(recompute_prm c s h).2.1]
  unfold recompute
  simp only [h]
  generalize s.prm.monitor.evaluate c (pressureOf c s.clients s.assigned) = m
  by_cases hm : s.prm.monitor = m
  · simp only [hm, ne_eq, not_true_eq_false, decide_false, Bool.false_eq_true, if_false, if_true]
    split <;> simp
  · simp only [hm, ne_eq, not_false_eq_true, decide_true, if_false, if_true]
    split <;> simp [raise]

/-- What a recompute changes of the RBC: the ROUTINE queue, the next tag, the TX drops. -/
theorem recompute_rbc_frame (s : State) :
    (recompute s).rbc = { s.rbc with
      routine := (recompute s).rbc.routine, nextTag := (recompute s).rbc.nextTag,
      txDrops := (recompute s).rbc.txDrops } := by
  have hq : ∀ x : State, (queueAdvert x).rbc = { x.rbc with
      routine := (queueAdvert x).rbc.routine, nextTag := (queueAdvert x).rbc.nextTag,
      txDrops := (queueAdvert x).rbc.txDrops } := by
    intro x
    unfold queueAdvert
    cases x.cfl.config with
    | none => rfl
    | some c =>
      dsimp only
      split
      · have hu := offer_routine (x.cfl.node == .joined) 0 (currentAdvert c x) x.rbc rfl
        have hf := offer_frame (x.cfl.node == .joined) 0 (currentAdvert c x) x.rbc
        rw [hu] at hf
        exact hf
      · rfl
  have ht : ∀ x : State, (triggerAdvert x).rbc = { x.rbc with
      routine := (triggerAdvert x).rbc.routine, nextTag := (triggerAdvert x).rbc.nextTag,
      txDrops := (triggerAdvert x).rbc.txDrops } := by
    intro x
    unfold triggerAdvert
    split
    · exact hq x
    · rfl
  unfold recompute
  cases s.cfl.config with
  | none => rfl
  | some c =>
    dsimp only
    split <;> split <;> first | rfl | exact ht _

/-- Without configuration values nothing is recomputed. -/
theorem recompute_unconfigured (s : State) (h : s.cfl.config = none) : recompute s = s := by
  simp [recompute, h]

/-! ## Records and entries -/

theorem findRecord_mem {client : Nat} {s : State} {r : Record} (h : findRecord client s = some r) :
    r ∈ s.ast.records ∧ r.client = client :=
  ⟨List.mem_of_find?_eq_some h, by simpa using List.find?_some h⟩

/-- A change of a record keeps the order and the number of the records. -/
theorem updateRecord_length (client : Nat) (f : Record → Record) (s : State) :
    (updateRecord client f s).ast.records.length = s.ast.records.length := by
  simp [updateRecord]

/-- A change of a record that keeps its client id keeps all client ids. -/
theorem updateRecord_clients (client : Nat) (f : Record → Record) (s : State) (hf : ∀ r, (f r).client = r.client) :
    (updateRecord client f s).ast.records.map Record.client = s.ast.records.map Record.client := by
  simp only [updateRecord, State.withAst_ast, List.map_map]
  refine List.map_congr_left fun r _ => ?_
  simp only [Function.comp]
  split <;> simp [hf]

/-- R37, step 1: a removal takes the client's record out; the others keep their order. -/
theorem removeRecord_records (client : Nat) (s : State) :
    (removeRecord client s).ast.records = s.ast.records.filter fun r => r.client ≠ client := by
  unfold removeRecord
  cases h : findRecord client s with
  | none =>
    simp only [findRecord, List.find?_eq_none, beq_iff_eq] at h
    exact (List.filter_eq_self.2 fun r hr => by simpa using h r hr).symm
  | some r => simp; split <;> simp

/-- R49: the client's in-flight entry goes, and no other. -/
theorem dropInflight_list (client : Nat) (s : State) :
    (dropInflight client s).hoe.inflight = s.hoe.inflight.filter fun e => e.client ≠ client := by
  unfold dropInflight
  cases h : findInflight client s with
  | none =>
    simp only [findInflight, List.find?_eq_none, beq_iff_eq] at h
    exact (List.filter_eq_self.2 fun e he => by simpa using h e he).symm
  | some e => simp; split <;> simp

/-- R105: the client's pending claim goes, and no other. -/
theorem dropClaim_list (client : Nat) (s : State) :
    (dropClaim client s).cku.claims = s.cku.claims.filter fun e => e.client ≠ client := by
  unfold dropClaim
  cases h : findClaim client s with
  | none =>
    simp only [findClaim, List.find?_eq_none, beq_iff_eq] at h
    exact (List.filter_eq_self.2 fun e he => by simpa using h e he).symm
  | some e => simp; split <;> simp

end Sys2Proof.Machine
end

