-- ==== Sys2Proof/Laws/Commands.lean ====
section
/-! SUPPORT. The two ways a command reaches its block, a frame and a request, and the shared effects of Safety.lean: each equal to
the operation of the machine that makes it. -/

namespace Sys2Proof.Machine

/-! ## Frames -/

theorem settleFrame_routed (kind : Byte) (f : BusFrame) (s : State) (hg : frameGood kind f = true)
    (hs : f.source.toNat ≠ s.station) (hd : f.dest.toNat = 0 ∨ f.dest.toNat = s.station) :
    settleFrame kind f s = route kind f.source.toNat f.dest.toNat f.payload s := by
  unfold settleFrame
  rw [if_neg (by simp [hg]), if_neg hs, if_pos hd]

/-- R165: a frame that is taken is routed, from the state in which its carrier has ended. -/
theorem receive_taken {kind source : Nat} {f : BusFrame} {s : State} (h : FrameTaken kind source f s) :
    receive (BitVec.ofNat 8 kind) f s =
      route (BitVec.ofNat 8 kind) source f.dest.toNat f.payload (carrierEnded s) := by
  obtain ⟨hr, hs, ho, hg, rfl, hn, hd⟩ := h
  unfold receive
  rw [if_neg (by simp [hs]), if_pos (by simp [hr, ho])]
  exact settleFrame_routed _ _ (carrierEnded s) hg hn hd

/-- R165: a run of carrier that the node itself was driving is no received frame: it ends, and nothing else happens. -/
theorem receive_own_run {kind : Byte} {f : BusFrame} {s : State} (hs : s.rbc.sends = false) (ho : s.rbc.ownRun = true) :
    receive kind f s = carrierEnded s := by
  simp [receive, hs, ho]

/-! ## Requests -/

theorem nextGroup_none (n : Ntu)
    (h : n.globalEnable = false ∨ n.groups = { cell := false, ticket := false, replay := false, links := false }) :
    n.nextGroup = none := by
  unfold Ntu.nextGroup
  rcases h with h | h
  · simp [h]
  · simp [h, NoticeGroup.all, GroupFlags.get]

/-- R184: with the first five sources empty and a place free, the wait queue has its turn. -/
theorem waitTurn_of_free {s : State} (h : LaneFree 1 s) : waitTurn s = true := by
  obtain ⟨hl, h1, h2, h3, h4, h5⟩ := h
  have hp : 0 < 64 - s.rsl.lane.length := by omega
  simp [waitTurn, noticeTurn, endReportTurn, astTurn, ckuTurn, hoeTurn, laneRoom, laneLimit, h1, h2, h3, h4,
    nextGroup_none _ h5, hp]

/-- R181: a record whose turn has come is the one taken. -/
theorem headRequest_next {kind : Nat} {body : List Byte} {rest : List LinkRecord} {s : State} (hk : kind < 256)
    (h : RequestNext kind body rest s) : headRequest kind s = some body := by
  obtain ⟨hi, hn, ⟨hl, h1, h2, h3, h4, h5⟩, hw⟩ := h
  have hwt : waitTurn s = true := waitTurn_of_free ⟨by omega, h1, h2, h3, h4, h5⟩
  have hp : 2 ≤ 64 - s.rsl.lane.length := by omega
  have hwr : waitReady s = false := by
    rcases hw with h | h
    · simp [waitReady, h]
    · simp [waitReady, inflightLimit, Nat.not_lt.2 h]
  have ht : inboundTurn s = true := by
    simp [inboundTurn, hwt, hwr, laneRoom, laneLimit, hp, hn]
  simp [headRequest, hi, ht, Nat.mod_eq_of_lt hk]

theorem popRequest_next {kind : Nat} {body : List Byte} {rest : List LinkRecord} {s : State}
    (h : RequestNext kind body rest s) : popRequest s = requestGone rest s := by
  simp [popRequest, requestGone, h.1]

/-- R181: a request whose turn has come and whose body fits is taken by its owner. -/
theorem takeRequest_next {α : Type} {kind : Nat} {body : List Byte} {rest : List LinkRecord} {s : State} {a : α}
    (read : List Byte → Option α) (act : α → State → State) (hk : kind < 256) (h : RequestNext kind body rest s)
    (hr : read body = some a) : takeRequest kind read act s = .next (act a (requestGone rest s)) := by
  unfold takeRequest
  simp only [headRequest_next hk h, hr, popRequest_next h]

/-- R181: a body that does not fit is answered REJECT BAD_LENGTH. -/
theorem takeRequest_bad {α : Type} {kind : Nat} {body : List Byte} {rest : List LinkRecord} {s : State}
    (read : List Byte → Option α) (act : α → State → State) (hk : kind < 256) (h : RequestNext kind body rest s)
    (hr : read body = none) :
    takeRequest kind read act s =
      .next (placeOnLane (.reject (BitVec.ofNat 8 kind) .badLength) (requestGone rest s)) := by
  unfold takeRequest
  simp only [headRequest_next hk h, hr, popRequest_next h, reject]

/-! ## Shared effects -/

/-- R10, R14: a JOINED node's advert. -/
theorem queueAdvert_joined {c : NodeConfig} {s : State} (hc : s.cfl.config = some c) (hj : s.cfl.node = .joined) :
    queueAdvert s = advertQueued c s := by
  unfold queueAdvert advertQueued routineWithAdvert
  simp only [hc, hj, if_true]
  simp only [queueAnswer, queueFrame, Rbc.offer, hj, beq_self_eq_true, Bool.not_true, Bool.false_eq_true, if_false,
    currentAdvert, OutFrame.isAdvert, Bool.true_and, OutFrame.isUrgent, queueLimit, advertNow, replaceAdvert]
  split <;> rename_i h <;> simp only [h]
  · simp [State.clients, Prm.halved, holdOffMs]
  · by_cases h2 : s.rbc.routine.length < 8
    · simp [h2, State.clients, Prm.halved, holdOffMs]
    · simp [h2, count16, satAdd, holdOffMs]

/-- R168: the offer of a frame of the URGENT class; none of them is an advert. -/
theorem queueFrame_urgent_eq (dest : Nat) (body : OutFrame) (s : State) (h : body.isUrgent = true) :
    queueFrame dest body s = urgentOffered dest body s := by
  have ha : body.isAdvert = false := by cases body <;> simp_all [OutFrame.isUrgent, OutFrame.isAdvert]
  unfold queueFrame urgentOffered
  by_cases hj : s.cfl.node = .joined
  · by_cases hl : s.rbc.urgent.length < 8
    · simp [Rbc.offer, hj, ha, h, queueLimit, hl, urgentSent]
    · simp [Rbc.offer, hj, ha, h, queueLimit, hl, count16, satAdd]
  · simp [Rbc.offer, hj]

/-- R168: the offer of a frame of the ROUTINE class that is no advert. -/
theorem queueFrame_routine_eq (dest : Nat) (body : OutFrame) (s : State) (h : body.isUrgent = false)
    (ha : body.isAdvert = false) : queueFrame dest body s = routineOffered dest body s := by
  unfold queueFrame routineOffered
  by_cases hj : s.cfl.node = .joined
  · by_cases hl : s.rbc.routine.length < 8
    · simp [Rbc.offer, hj, ha, h, queueLimit, hl, routineSent]
    · simp [Rbc.offer, hj, ha, h, queueLimit, hl, count16, satAdd]
  · simp [Rbc.offer, hj]

theorem queueAdvert_not_joined {s : State} (hj : s.cfl.node ≠ .joined) : queueAdvert s = s := by
  unfold queueAdvert
  cases s.cfl.config <;> simp [hj]

theorem filter_no_tag (l : List TxFrame) : l.filter (fun f => f.tag ∉ ([] : List Nat)) = l := by simp

/-- R49: the end of an in-flight entry. -/
theorem dropInflight_eq (client : Nat) (s : State) : dropInflight client s = inflightGone client s := by
  unfold dropInflight inflightGone
  cases h : findInflight client s with
  | none =>
    have h' : s.hoe.inflight.find? (fun e => e.client == client) = none := h
    have hf : s.hoe.inflight.filter (fun e => e.client ≠ client) = s.hoe.inflight := by
      simp only [List.find?_eq_none, beq_iff_eq] at h'
      exact List.filter_eq_self.2 fun e he => by simpa using h' e he
    simp only [h', Option.toList_none, List.filterMap_nil, filter_no_tag, hf]
    rfl
  | some e =>
    have h' : s.hoe.inflight.find? (fun e => e.client == client) = some e := h
    simp only [h', Option.toList_some]
    by_cases hq : e.frame = .queued
    · simp [hq, withdrawFrame, Rbc.withdraw]
    · simp [hq]
      rfl

/-- R105: the end of a pending claim. -/
theorem dropClaim_eq (client : Nat) (s : State) : dropClaim client s = claimGone client s := by
  unfold dropClaim claimGone
  cases h : findClaim client s with
  | none =>
    have h' : s.cku.claims.find? (fun e => e.client == client) = none := h
    have hf : s.cku.claims.filter (fun e => e.client ≠ client) = s.cku.claims := by
      simp only [List.find?_eq_none, beq_iff_eq] at h'
      exact List.filter_eq_self.2 fun e he => by simpa using h' e he
    simp only [h', Option.toList_none, List.filterMap_nil, filter_no_tag, hf]
    rfl
  | some e =>
    have h' : s.cku.claims.find? (fun e => e.client == client) = some e := h
    simp only [h', Option.toList_some]
    by_cases hq : e.frame = .queued
    · simp [hq, withdrawFrame, Rbc.withdraw]
    · simp [hq]
      rfl

@[simp] theorem Stream.lost_id (st : Stream) : st.lost.id = st.id := by
  unfold Stream.lost
  dsimp only
  repeat' split
  all_goals rfl

/-- R125: each stream of a list without repeats loses one subscriber. -/
theorem loseAll_eq (l : List Nat) (s : State) (h : l.Nodup) :
    loseAll l s = s.withRpc { s.rpc with streams := s.rpc.streams.map fun st => if st.id ∈ l then st.lost else st } := by
  induction l generalizing s with
  | nil => simp [loseAll]; rfl
  | cons a l ih =>
    obtain ⟨ha, hl⟩ := List.nodup_cons.1 h
    have : loseAll (a :: l) s = loseAll l (loseSubscriber a s) := rfl
    rw [this, ih _ hl]
    simp only [loseSubscriber, updateStream, State.withRpc_rpc, State.withRpc_twice, List.map_map]
    congr 2
    refine List.map_congr_left fun st _ => ?_
    by_cases h1 : st.id = a
    · simp [h1, ha]
    · simp [h1]

/-- R37: a removal is the five steps of the rule. -/
theorem removeRecord_eq {r : Record} {s : State} (h : findRecord r.client s = some r) (hn : r.subs.Nodup) :
    removeRecord r.client s = recompute (recordGone r s) := by
  unfold removeRecord recordGone
  simp only [h, loseAll_eq _ _ hn, dropClaim_eq, dropInflight_eq]
  rfl

/-- R122: the removal of a stream. -/
theorem removeStream_eq (id : Nat) (s : State) : removeStream id s = streamGone id s := rfl

/-- R22: a change of the record of a client that has one record is the change of that record. -/
theorem updateRecord_eq {r : Record} {s : State} (h : findRecord r.client s = some r)
    (hn : (s.ast.records.map Record.client).Nodup) (f : Record → Record) :
    updateRecord r.client f s = recordBecomes r.client (f r) s := by
  unfold updateRecord recordBecomes
  congr 2
  dsimp only
  congr 1
  refine List.map_congr_left fun x hx => ?_
  by_cases hc : x.client = r.client
  · have hr : r ∈ s.ast.records := List.mem_of_find?_eq_some h
    rw [List.inj_on_of_nodup_map hn hx hr hc]
  · simp [hc]

/-- R165: every frame command is the RBC's taking of the frame of its kind. -/
theorem exec_frameCommands (kind : Byte) (f : BusFrame) (s : State) :
    ∀ x ∈ frameCommands kind f, exec x.1 s = .next (receive x.2.1 x.2.2 s) := by
  intro x hx
  simp only [frameCommands, List.cons_append, List.nil_append, List.mem_cons, List.not_mem_nil, or_false] at hx
  rcases hx with h | h | h | h | h | h | h | h | h | h | h | h | h | h | h | h | h | h | h | h | h | h | h | h | h <;>
    subst h <;> rfl

/-- R29: a grant leaves its pull in the record, in place of any earlier pull of the same station; those of other stations stay. -/
theorem mem_grantedTo {p x : Pull} {r : Record} :
    x ∈ r.grantedTo p ↔ x = p ∨ (x ∈ r.granted ∧ x.station ≠ p.station) := by
  simp [Record.grantedTo, or_comm]

/-- R29: the retry of a pull whose grant has been withdrawn meets CTX_NONE, and the record stays as it was. -/
theorem takePull_granted {source client since : Nat} {r : Record} {s : State} (hj : s.cfl.node = .joined)
    (h : findRecord client s = some r) (hs : r.state = .active ∨ r.state = .offering ∨ r.state = .steered)
    (hg : { station := source, since := since } ∈ r.granted) :
    takePull source client since s = queueFrame source (.ctxNone client) s := by
  rcases hs with hs | hs | hs <;> simp [takePull, hj, h, hs, hg]

/-- R51: a pull that is not taken, by the three cases of the rule. -/
theorem waitOrRefuse_waits (q : AssocRequest) (u : State) : PullWaits q u fun x => waitOrRefuse q u = x := by
  refine ⟨fun pre w post h hw hx => ?_, fun h => ⟨fun hl => ?_, fun hl => ?_⟩⟩
  · have hany : (u.hoe.waitQueue.any fun w => w.client == q.client) = true := by simp [h, hw]
    have hmap : u.hoe.waitQueue.map (fun w => if w.client = q.client then q else w) = pre ++ q :: post := by
      rw [h]
      simp only [List.map_append, List.map_cons, hw, if_true]
      congr 1
      · exact (List.map_congr_left fun x hm => if_neg (hx x (by simp [hm]))).trans (List.map_id _)
      · congr 1
        exact (List.map_congr_left fun x hm => if_neg (hx x (by simp [hm]))).trans (List.map_id _)
    simp only [waitOrRefuse, hany, if_true, hmap]
  · have hany : (u.hoe.waitQueue.any fun w => w.client == q.client) = false := by simpa using h
    simp [waitOrRefuse, hany, waitLimit, hl]
  · have hany : (u.hoe.waitQueue.any fun w => w.client == q.client) = false := by simpa using h
    simp [waitOrRefuse, hany, waitLimit, Nat.not_lt.2 hl, answerAssociate]

/-- R56: a pull whose first frame the RBC accepts. -/
theorem startPull_begun {client peer : Nat} {s : State} (hj : s.cfl.node = .joined) (hr : s.rbc.urgent.length < 8) :
    startPull client peer s = pullBegun client (sinceOf client s) peer s := by
  obtain ⟨ha, hq⟩ := queueFrame_urgent peer (.ctxPull client (sinceOf client s) 1) s hj rfl rfl hr
  simp [startPull, ha, hq, addInflight, pullBegun, urgentSent, queuedEntry, responseMs]
  rfl

end Sys2Proof.Machine
end

