-- ==== Sys2Proof/WellFormed.lean ====
section
/-! DEFINITION. Which commands are well-formed: every operand within the range its field has, and the operand's bytes those of
the command's own row. -/

namespace Sys2Proof

open Sys2Proof.Machine

/-- A client id has 48 bits (R23). -/
def clientOk (client : Nat) : Bool := client < 2 ^ 48

/-- A station address is 1..31 (R16). -/
def stationOk (station : Nat) : Bool := 1 ≤ station && station ≤ 31

/-- The payload of a run of carrier that can be written as bytes with a 16-bit length. -/
def frameOk (f : BusFrame) : Bool := f.payload.length < 65536

/-- An ENTITLEMENT frame of the row with action `code`. -/
def entitlementOk (code : Nat) (f : BusFrame) : Bool :=
  frameOk f && (f.payload.length < 3 || fieldAt f.payload 2 1 == code)

/-- The well-formed commands. -/
def Instr.wellFormed : Instr → Bool
  | .imageReadComplete image => image.length == 48
  | .ageTimerExpiry st | .declineHoldExpiry st => stationOk st
  | .idleTimerExpiry c | .claimantTimerExpiry c | .expectationHoldExpiry c | .steerHoldExpiry c
  | .pullResponseTimeout c | .offerResponseTimeout c | .claimTimerExpiry c => clientOk c
  | .loadAdvert f | .ctxPull f | .ctxGrant f | .ctxNone f | .ctxHeld f | .steerOffer f | .steerAccept f
  | .steerDecline f | .checkinClaim f | .checkinVerdict f | .checkinNote f | .incident f | .resyncRequest f
  | .freeze f | .unfreeze f | .clock f | .streamAnnounce f | .segment f => frameOk f
  | .issue f => entitlementOk 0 f
  | .reissue f => entitlementOk 1 f
  | .void f => entitlementOk 2 f
  | .clearCheckin f => entitlementOk 3 f
  | .resyncFill f => entitlementOk 4 f
  | .invalidEntitlementCode f => frameOk f && entitlementCodesBad f.payload
  | .unknownKindFrame kind f => frameOk f && !knownFrameKind kind
  | .linkRecordArrival _ body _ => body.length < 65536
  | .carrierEnd run => isFragment run || !frameGood (kindOfRun run) (frameOfRun run)
  | .fullReset _ | .imageReadFailed | .listenTimerExpiry | .siteTimeTick | .frameStart | .slotStart
  | .lastSlotStart | .advertTimerExpiry | .holdOffTimerExpiry | .jamWatchExpiry | .txStart _ | .backoffEnd
  | .retryAttemptStart _ | .collision | .frameSent | .associate | .heard | .depart | .presentTicket
  | .subscribe | .unsubscribe | .replayReset | .enable | .disable | .ack | .globalOn | .globalOff | .clearAll
  | .noticeControlBadOperation | .statusQuery | .unknownKindRecord | .recordTaken | .basebandReady _
  | .hoeBacklogMove | .ckuBacklogMove | .astBacklogMove | .streamEnded | .noticeDelivery | .waitQueueHead
  | .carrierStart => true

end Sys2Proof
end

