-- ==== Sys2Proof/Tests/Slice0.lean ====
section
/-! SUPPORT. Tests: ill-formed commands, single steps against the spec's own tables, and for each obligation with hypotheses a
witness that meets them, clause by clause. -/

namespace Sys2Proof.Tests

open Sys2Proof Sys2Proof.Machine

/-! ## Small states -/

/-- A configuration: section 5, station 3, seats 10 to 29, 16 guests, 8 slots of which 4 for replay. -/
def conf : NodeConfig where
  sectionId := 5
  station := 3
  firstSeat := 10
  seatCount := 20
  capacity := 16
  clientWeight := 8
  low := -500
  high := 0
  critical := 400
  slots := 8
  rmax := 4
  frameCode := 0
  margin := 32
  freezeMask := 0x0F0F#16
  siteKey := 0x1234#16

/-- A configured node in a node state, with its receiver on and its seats EMPTY. -/
def node (st : NodeState) : State :=
  { State.reset with
    cfl := { State.reset.cfl with node := st, config := some conf }
    ens := { State.reset.ens with seats := List.replicate 20 { standing := .empty, revision := 0, duplicates := 0 } }
    sls := { State.reset.sls with running := true }
    sck := { State.reset.sck with advancing := true }
    rbc := { State.reset.rbc with receiver := true } }

/-- The JOINED node. -/
def home : State := node .joined

/-- Client 7's record in a record state and a class. -/
def rec (st : RecordState) (cls : ClientClass) : Record where
  client := 7
  state := st
  cls := cls
  since := 10
  heard := []
  binding := none
  subs := []
  badCodes := 0
  peer := if st = .active then none else some 2
  timer := none
  idle := some 120000
  held := none
  granted := []

/-- A node with one record. -/
def with1 (r : Record) (s : State) : State := { s with ast := { s.ast with records := [r] } }

/-- A node with a phase. -/
def inPhase (p : Phase) (s : State) : State := { s with sck := { s.sck with phase := p } }

/-- Client 7's in-flight entry with station 2. -/
def entry (k : InflightKind) (attempt : Nat) (st : FrameStatus) : Inflight where
  client := 7
  kind := k
  peer := 2
  attempt := attempt
  frame := st
  tag := 0
  timer := some 400

/-- A node with one in-flight entry. -/
def with1e (e : Inflight) (s : State) : State := { s with hoe := { s.hoe with inflight := [e] } }

/-- Client 7's claim with station 2 for seat 30. -/
def claim : Claim where
  client := 7
  ticket := 100
  seat := 30
  owner := 2
  frame := .ended
  tag := 0
  timer := some 1500

/-- A node with one pending claim. -/
def with1c (s : State) : State := { s with cku := { s.cku with claims := [claim] } }

/-- The JOINED node with the first seat in a standing. -/
def seated (x : Standing) (s : State) : State :=
  { s with ens := { s.ens with seats := s.ens.seats.set 0 { standing := x, revision := 3, duplicates := 14 } } }

/-- Ticket 100. -/
def ticket : Ticket where
  number := 100
  serial := 1
  tier := .general

/-- A good frame of a kind from a station to the node. -/
def frame (kind source : Nat) (p : List Byte) : BusFrame :=
  let f : BusFrame := { dest := 3#8, source := BitVec.ofNat 8 source, length := BitVec.ofNat 16 p.length, payload := p,
                        check := 0#16 }
  { f with check := frameCheck (BitVec.ofNat 8 kind) f }

/-- A node whose inbound queue holds one record. -/
def asked (kind : Nat) (body : List Byte) (s : State) : State :=
  { s with rsl := { s.rsl with inbound := [{ kind := BitVec.ofNat 8 kind, body := body }] } }

/-- The bytes of client id 7. -/
def seven : List Byte := [0, 0, 0, 0, 0, 7]

/-- A frame to be sent. -/
def tx (b : OutFrame) : TxFrame where
  tag := 0
  dest := 2
  body := b

/-- The node with `n` frames on the URGENT queue. -/
def urgentOf (n : Nat) (s : State) : State :=
  { s with rbc := { s.rbc with urgent := List.replicate n { tag := 9, dest := 2, body := .ctxNone 1 } } }

/-- The node with `n` frames on the ROUTINE queue. -/
def routineOf (n : Nat) (s : State) : State :=
  { s with rbc := { s.rbc with routine := List.replicate n { tag := 9, dest := 0, body := .checkinNote 1 1 1 1 } } }

/-- The node with a neighbour whose block follows the node's own. -/
def nextDoor (s : State) : State :=
  { s with nbt := [{ station := 2, firstSeat := 30, seatCount := 4, pressure := -100, lastHeard := 5,
                     ageTimer := some 6000, declineHold := none }] }

/-- The replay stream 1 in a state, with subscribers. -/
def stream (st : StreamState) (n : Nat) : Machine.Stream where
  id := 1
  priority := 1
  demand := 2
  chunks := 2
  chunkLength := 64
  padding := .rep
  alignment := .left
  subscribers := n
  state := st
  wantedSince := none
  withdrawn := false
  cursor := emptyCursor
  underruns := 0
  born := 0

/-- A node with one stream and a segment cache. -/
def with1s (st : Machine.Stream) (l : List SegmentRecord) (s : State) : State :=
  { s with rpc := { s.rpc with streams := [st], cache := l } }

/-- A record of stream 1 with one chunk of two. -/
def segment (q : Nat) (st : SegmentState) : SegmentRecord where
  stream := 1
  sequence := q
  stamp := 0
  count := 2
  length := 64
  chunks := if st = .filling then [(0, List.replicate 64 1)] else [(0, List.replicate 64 1), (1, List.replicate 64 2)]
  state := st

/-- A place of stream 1. -/
def place1 : Place := { stream := 1, padding := .rep, alignment := .left }

/-- The slot map that gives stream 1 the slots 4 to 7. -/
def mapOf : SlotMap where
  places := List.replicate 4 none ++ List.replicate 4 (some place1)
  order := [{ stream := 1, born := 0, given := 4 }]
  pool := 4

/-- The node in a slot, under that map. -/
def inSlot (n : Nat) (s : State) : State := { s with sls := { s.sls with slot := n, inForce := some mapOf } }

/-! ## Ill-formed commands are refused -/

theorem test_image_of_47_bytes_refused : (Instr.imageReadComplete (List.replicate 47 0)).wellFormed = false := by decide
theorem test_station_0_refused : (Instr.ageTimerExpiry 0).wellFormed = false := by decide
theorem test_station_32_refused : (Instr.declineHoldExpiry 32).wellFormed = false := by decide
theorem test_client_of_49_bits_refused : (Instr.idleTimerExpiry (2 ^ 48)).wellFormed = false := by decide
theorem test_long_frame_refused (f : BusFrame) (h : 65536 ≤ f.payload.length) : (Instr.loadAdvert f).wellFormed = false := by
  simp [Instr.wellFormed, frameOk, h]
theorem test_issue_with_void_action_refused : (Instr.issue (frame 33 2 [0, 10, 2])).wellFormed = false := by
  decide +kernel
theorem test_good_code_is_not_invalid :
    (Instr.invalidEntitlementCode (frame 33 2 (List.replicate 25 0))).wellFormed = false := by decide +kernel
theorem test_known_kind_is_not_unknown : (Instr.unknownKindFrame 1 (frame 1 2 [])).wellFormed = false := by
  decide +kernel
theorem test_long_record_refused (b : List Byte) (h : 65536 ≤ b.length) :
    (Instr.linkRecordArrival 64 b 0).wellFormed = false := by
  simp [Instr.wellFormed, h]
theorem test_good_frame_is_no_carrier_run :
    (Instr.carrierEnd ((tx (.ctxNone 7)).wire 2)).wellFormed = false := by decide +kernel

/-! ## No word spells a command (log entry 15) -/

theorem test_no_word_decodes : decodeTableWord 32 0 = none := by decide

/-! ## The spec's worked cases -/

/-- 1.2, case 1 and case 2: the pressures of the tables. -/
theorem test_pressure_of_worked_cases :
    let c : NodeConfig := { conf with capacity := 96, clientWeight := 10, slots := 24 }
    let d : NodeConfig := { conf with capacity := 16, clientWeight := 16, slots := 32 }
    pressureOf c 62 9 = -730 ∧ pressureOf c 63 9 = -719 ∧ pressureOf d 160 32 = 2047 := by decide +kernel

/-- 11, "a mis-written image": every field after clamping. -/
theorem test_clamps_of_mis_written_image :
    clampConfig { conf with firstSeat := 3950, seatCount := 200, capacity := 12, clientWeight := 20, slots := 40, rmax := 36,
                            frameCode := 6, margin := 2000, low := 2040, high := 100, critical := 50 } =
      { conf with firstSeat := 3950, seatCount := 146, capacity := 16, clientWeight := 16, slots := 32, rmax := 32,
                  frameCode := 2, margin := 1023, low := 2015, high := 2031, critical := 2047 } := by decide +kernel

/-- 11, the second image: the limits -2000, 400 and 300. -/
theorem test_clamps_of_second_image : clampLimits (-2000) 400 300 = (-1600, 400, 416) := by decide +kernel

/-- A stream of "the slot map after a goal". -/
def goal (id priority demand since : Nat) : Machine.Stream :=
  { stream .wanted 1 with id := id, priority := priority, demand := demand, wantedSince := some since, born := id }

/-- The streams of "the slot map after a goal": Y is 2, X is 1, Z is 3, W is 4. -/
def goalState (x : Machine.Stream) : State :=
  { home with
    cfl := { home.cfl with config := some { conf with slots := 24, rmax := 12 } }
    rpc := { home.rpc with streams := [x, goal 2 0 4 5120600, goal 3 1 6 5120350, goal 4 3 2 5119900] } }

/-- 07, "the slot map after a goal": the pool of 12 and the halved pool of 6. -/
theorem test_map_after_a_goal :
    ((buildMap 12 (goalState (goal 1 1 5 5120100))).order.map fun o => (o.stream, o.given)) =
        [(2, 4), (1, 5), (3, 3), (4, 0)] ∧
      ((buildMap 6 (goalState (goal 1 1 5 5120100))).places.drop 17).map (Option.map Place.stream) =
        [none, some 2, some 2, some 2, some 2, some 1, some 1] := by decide +kernel

/-- 07, the same with X draining, which had 5 slots: it goes first and keeps them. -/
theorem test_draining_stream_goes_first :
    let s := goalState { goal 1 1 5 5120100 with state := .draining, subscribers := 0 }
    let m : SlotMap := { places := List.replicate 5 (some { stream := 1, padding := .rep, alignment := .left }),
                         order := [], pool := 12 }
    ((buildMap 6 { s with sls := { s.sls with inForce := some m } }).order.map fun o => (o.stream, o.given)) =
      [(1, 5), (2, 1), (3, 0), (4, 0)] := by decide +kernel

/-- R99: the table's rows for a ticket presented again, and by another client. -/
theorem test_owner_decision_rows :
    decideSeat 7 100 1 (.checkedIn ticket 7 5) = .again ∧ decideSeat 8 100 1 (.checkedIn ticket 7 5) = .duplicate ticket 7 ∧
      decideSeat 7 100 2 (.issued ticket) = .notCurrent ∧ decideSeat 7 100 2 (.void ticket) = .voided := by decide +kernel

/-- R158: a phase may be skipped forward and is never taken back, but from FULL_TIME to PRE_GATES. -/
theorem test_phase_rows :
    phaseAdopted .secondHalf .gatesOpen = true ∧ phaseAdopted .firstHalf .interval = false ∧
      phaseAdopted .preGates .fullTime = true ∧ phaseAdopted .gatesOpen .fullTime = false := by decide

/-- R77: 146 seats make groups of 10, so that the last group holds none. -/
theorem test_freeze_groups : groupWidth 146 = 10 ∧ groupOf 146 145 = 14 := by decide

/-! ## Witnesses: the hypotheses of the obligations are met, clause by clause -/

/-- The image of the configuration `conf`. -/
def image : List Byte :=
  let b := [1#8] ++ beBytes 1 5 ++ beBytes 1 3 ++ beBytes 2 10 ++ beBytes 2 20 ++ beBytes 1 16 ++ beBytes 1 8 ++
    signedBytes (-500) ++ signedBytes 0 ++ signedBytes 400 ++ beBytes 1 8 ++ beBytes 1 4 ++ beBytes 1 0 ++
    beBytes 2 32 ++ beBytes 2 0x0F0F ++ beBytes 2 0x1234 ++ List.replicate 23 0
  b ++ [-(byteSum b)]

/-- The image with one byte replaced and the sum made good. -/
def imageWith (i : Nat) (v : Byte) : List Byte :=
  let b := (image.take 47).set i v
  b ++ [-(byteSum b)]

theorem witness_StepRunsFrontCommand :
    ({ State.reset with pending := [.siteTimeTick, .carrierStart] } : State).pending = .siteTimeTick :: [.carrierStart] ∧
      State.reset.pending = [] := by decide

theorem witness_ImageFaultsUnconfigure :
    State.reset.cfl.node = .loading ∧ image.length = 48 ∧ byteSum (image.set 47 0) ≠ 0 ∧
      (∀ p ∈ [(0, (0 : Byte)), (0, 2), (2, 0), (2, 32), (1, 0)],
        (imageWith p.1 p.2).length = 48 ∧ byteSum (imageWith p.1 p.2) = 0 ∧
          (fieldAt (imageWith p.1 p.2) 0 1 ≠ 1 ∨ fieldAt (imageWith p.1 p.2) 2 1 = 0 ∨
            31 < fieldAt (imageWith p.1 p.2) 2 1 ∨ fieldAt (imageWith p.1 p.2) 1 1 = 0)) ∧
      (let b := (image.take 47).set 4 0; fieldAt (b ++ [-(byteSum b)]) 3 2 = 0 ∧ byteSum (b ++ [-(byteSum b)]) = 0) ∧
      (let b := (image.take 47).set 3 16; fieldAt (b ++ [-(byteSum b)]) 3 2 = 4106 ∧ byteSum (b ++ [-(byteSum b)]) = 0) ∧
      (let b := (image.take 47).set 6 0; fieldAt (b ++ [-(byteSum b)]) 5 2 = 0 ∧ byteSum (b ++ [-(byteSum b)]) = 0) := by
  decide +kernel

theorem witness_GoodImageEntersListening :
    State.reset.cfl.node = .loading ∧ image.length = 48 ∧ byteSum image = 0 ∧ fieldAt image 0 1 = 1 ∧
      1 ≤ fieldAt image 2 1 ∧ fieldAt image 2 1 ≤ 31 ∧ fieldAt image 1 1 ≠ 0 ∧ 1 ≤ fieldAt image 3 2 ∧
      fieldAt image 3 2 ≤ 4095 ∧ fieldAt image 5 2 ≠ 0 ∧ State.reset.rsl.slotLane = [] ∧
      fieldAt (imageWith 2 31) 2 1 = 31 ∧ byteSum (imageWith 2 31) = 0 := by decide +kernel

theorem witness_ClampedConfigInRange :
    (1 ≤ conf.firstSeat ∧ conf.firstSeat ≤ 4095 ∧ 1 ≤ conf.seatCount) ∧
      (let c : NodeConfig := { conf with firstSeat := 4095 }; 1 ≤ c.firstSeat ∧ c.firstSeat ≤ 4095 ∧ 1 ≤ c.seatCount) ∧
      (-1600 ≤ conf.low ∧ conf.low + 16 ≤ conf.high ∧ conf.high + 16 ≤ conf.critical ∧ conf.critical ≤ 2047) ∧
      ∀ p ∈ [((2031 : Int), (2047 : Int)), (2032, 2048)],
        max 0 (max p.1 (-500 + 16) + 16) = p.2 ∧ (p.2 ≤ 2047 ∨ 2047 < p.2) := by
  decide

theorem witness_ListenTimerEntersJoined :
    let s : State := { node .listening with cfl := { (node .listening).cfl with listenTimer := some 2000 } }
    s.cfl.config = some conf ∧ s.cfl.node = .listening ∧ s.cfl.listenTimer = some 2000 ∧ s.rbc.routine = [] := by decide

theorem witness_StatusQueryAnswered : RequestNext 72 [] [] (asked 72 [] home) := by decide +kernel

theorem witness_SiteTimeTickCounts :
    (home.sck.advancing = true ∧ home.sck.time < 4294967295) ∧
      (let s : State := { home with sck := { home.sck with time := 4294967295 } };
        s.sck.advancing = true ∧ s.sck.time = 4294967295) ∧ State.reset.sck.advancing = false := by decide

/-- A CLOCK frame. -/
def clockFrame (t p : Nat) : BusFrame := frame 32 30 (beBytes 4 t ++ beBytes 1 p)

theorem witness_ClockFrameTaken :
    let late : State := { home with sck := { home.sck with time := 300 } }
    (FrameTaken 32 30 (clockFrame 7 3) home ∧ home.hearing = true ∧ home.cfl.config = some conf ∧
        readClock (clockFrame 7 3).payload = some (7, some .firstHalf) ∧ home.sck.phase.code < Phase.firstHalf.code) ∧
      (FrameTaken 32 30 (clockFrame 199 9) late ∧ readClock (clockFrame 199 9).payload = some (199, none) ∧
        199 < late.sck.time ∧ 100 < late.sck.time - 199) ∧
      (readClock (clockFrame 200 1).payload = some (200, some .preGates) ∧
        FrameTaken 32 30 (clockFrame 200 1) (inPhase .fullTime late)) := by decide +kernel

theorem witness_ClockMovesForward :
    ClockInv home ∧ (∀ strap, Instr.siteTimeTick ≠ .fullReset strap) ∧
      exec .siteTimeTick home = .next (home.withSck { home.sck with time := 1 }) :=
  by
  refine ⟨by show (0 : Nat) ≤ _; decide, fun strap h => (by cases h), rfl⟩

theorem witness_RecomputeGivesPressure :
    home.cfl.config = some conf ∧
      (∀ m ∈ [Monitor.normal, .high, .critical],
        let s : State := { home with prm := { home.prm with monitor := m } }; s.cfl.config = some conf ∧ s.prm.monitor = m) := by
  decide +kernel

/-- The JOINED node with last advertised values that the change trigger finds far away. -/
def advertised (timer : Timer) (st : NodeState) : State :=
  { node st with prm := { (node st).prm with lastAdvert := some { pressure := -1536, monitor := .normal }, holdOff := timer } }

theorem witness_ChangeTriggerQueuesAdvert :
    let far (s : State) : Prop := s.cfl.config = some conf ∧
      64 ≤ ((recompute s).prm.pressure - (-1536)).natAbs ∧
        s.prm.lastAdvert = some { pressure := -1536, monitor := .normal }
    (far (advertised none .joined) ∧ (advertised none .joined).prm.holdOff = none) ∧
      (far (advertised (some 250) .joined) ∧ (advertised (some 250) .joined).prm.holdOff.isSome) ∧
      (far (advertised none .muted) ∧ (advertised none .muted).cfl.node ≠ .joined) ∧
      home.prm.lastAdvert = none := by decide +kernel

theorem witness_HoldOffExpiryActsOnTrigger :
    (∀ b ∈ [true, false],
      let s : State := { home with prm := { home.prm with holdOff := some 250, heldTrigger := b } }
      s.cfl.config = some conf ∧ s.cfl.node = .joined ∧ s.prm.holdOff = some 250 ∧ s.prm.heldTrigger = b) ∧
      (let s : State := { home with prm := { home.prm with advertTimer := some 2000 } };
        s.prm.advertTimer = some 2000 ∧ (routineWithAdvert conf s).isSome ∧ s.prm.monitor = .normal) := by decide +kernel

/-- A HIGH node with a guest that hears station 2. -/
def steering (n : Nat) : State :=
  let s := nextDoor (with1 { rec .active .guest with heard := [2] } home)
  { s with
    prm := { s.prm with monitor := .high, pressure := -68, advertTimer := some 2000 }
    hoe := { s.hoe with inflight := List.replicate n (entry .pull 1 .ended) } }

theorem witness_SteeringOffersCandidate :
    let r (k : Nat) (l : List Nat) : Record := { rec .active .guest with client := k, heard := l }
    let deep (first : List Nat) : State :=
      let s := steering 7
      { s with ast := { s.ast with records := [r 1 [2], r 2 first, { r 6 [2] with cls := .home }, r 3 [4], r 4 [9], r 5 [31]] } }
    let candidates (s : State) := (s.ast.records.reverse.filter fun x => x.state = .active ∧ x.cls = .guest ∧ x.heard ≠ []).take 4
    (∀ n ∈ [7, 8], (steering n).cfl.config = some conf ∧ (steering n).cfl.node = .joined ∧
      (steering n).prm.advertTimer = some 2000 ∧ (steering n).prm.monitor ≠ .normal ∧
      ((steering n).ast.records.map Record.client).Nodup ∧ (steering n).hoe.inflight.length = n ∧
      (steering n).hoe.backlog = []) ∧
      (candidates (deep [2]) = [r 5 [31], r 4 [9], r 3 [4]] ++ r 2 [2] :: [] ∧
        candidates (deep [3]) = [r 5 [31], r 4 [9], r 3 [4], r 2 [3]]) ∧
      (∀ e ∈ (deep [2]).nbt, e.station = 2 ∧ e.declineHold = none ∧
        e.pressure = (deep [2]).prm.pressure - conf.margin) ∧
      (∀ n ∈ [7, 8], (urgentOf n (steering 7)).rbc.urgent.length = n ∧
        (urgentOf n (steering 0)).ast.records = [r 7 [2]] ∧ (steering 0).hoe.inflight = []) := by
  refine ⟨?_, ?_, ?_, ?_⟩ <;> decide +kernel

theorem witness_NeighbourQuestionsAnswered :
    (∀ x ∈ (nextDoor home).nbt, (x.firstSeat ≤ 33 ∧ 33 < x.firstSeat + x.seatCount) ∧
        ¬ (x.firstSeat ≤ 34 ∧ 34 < x.firstSeat + x.seatCount)) ∧
      (∀ x ∈ (nextDoor home).nbt, x.station ∈ [2] ∧ x.declineHold = none ∧ x.pressure ≤ -100 ∧ ¬ x.pressure ≤ -101) := by
  decide

/-- A LOAD_ADVERT frame of station 2. -/
def advertFrame (m : Nat) : BusFrame :=
  frame 1 2 (beBytes 2 30 ++ beBytes 2 4 ++ signedBytes (-5) ++ beBytes 1 m ++ beBytes 1 9 ++ beBytes 1 0)

theorem witness_AgeExpiryRemovesNeighbour :
    (∃ e ∈ (nextDoor home).nbt, e.station = 2 ∧ e.ageTimer = some 6000) ∧
      ((nextDoor home).nbt.map Neighbour.station).Nodup ∧ FrameTaken 1 2 (advertFrame 0) (nextDoor home) ∧
      readAdvert (advertFrame 0).payload = some { firstSeat := 30, seatCount := 4, pressure := -5 } := by decide +kernel

theorem witness_LoadAdvertKeepsNeighbours :
    (FrameTaken 1 2 (advertFrame 3) home ∧ readAdvert (advertFrame 3).payload = none) ∧
      (FrameTaken 1 2 (advertFrame 2) (nextDoor home) ∧
        readAdvert (advertFrame 2).payload = some { firstSeat := 30, seatCount := 4, pressure := -5 } ∧
        ∃ e ∈ (nextDoor home).nbt, e.station = 2) ∧
      (FrameTaken 1 2 (advertFrame 2) home ∧ ∀ e ∈ home.nbt, e.station ≠ 2) := by decide +kernel

theorem witness_HeardReplacesList :
    let body : List Byte := seven ++ [4, 0, 31, 32, 3]
    readHeard body = some (7, [0, 31, 32, 3]) ∧
      (∀ st ∈ [RecordState.active, .offering, .steered, .pulling, .expected, .releasing],
        let s := asked 65 body (with1 (rec st .guest) home)
        RequestNext 65 body [] s ∧ (s.ast.records.map Record.client).Nodup ∧
          findRecord 7 s = some (rec st .guest) ∧ (rec st .guest).state = st) ∧
      (RequestNext 65 body [] (asked 65 body home) ∧ findRecord 7 (asked 65 body home) = none) := by decide +kernel

/-- An ASSOCIATE of client 7: previous station, previous section and declared seat, each 0 for absent. -/
def assocBody (station sect seat : Nat) : List Byte :=
  let opt (n v : Nat) : List Byte := optionalBytes n (if v = 0 then none else some v)
  seven ++ opt 1 station ++ opt 1 sect ++ opt 2 seat ++ [0]

/-- What the node reads from it. -/
def assocOf (station sect seat : Nat) : AssocRequest where
  client := 7
  prevStation := if station = 0 then none else some station
  prevSection := if sect = 0 then none else some sect
  declaredSeat := if seat = 0 then none else some seat
  heard := []

/-- A node with `n` records of other clients, of a class. -/
def crowd (n : Nat) (cls : ClientClass) (s : State) : State :=
  { s with ast := { s.ast with records := (List.range n).map fun i => { rec .active cls with client := 100 + i } } }

theorem witness_AssociateAdmitsClient :
    (let s := asked 64 (assocBody 0 0 10) (seated (.issued ticket) (crowd 159 .claimant home));
      RequestNext 64 (assocBody 0 0 10) [] s ∧ readAssociate (assocBody 0 0 10) = some (assocOf 0 0 10) ∧ findRecord 7 s = none ∧
        s.ast.records.length < 160 ∧ seatTicketed 10 s = true) ∧
      (let s := asked 64 (assocBody 0 0 10) (crowd 15 .guest home);
        RequestNext 64 (assocBody 0 0 10) [] s ∧ findRecord 7 s = none ∧ seatTicketed 10 s = false ∧ s.guests < s.capacity) ∧
      (let s := asked 64 (assocBody 0 0 10) (crowd 16 .guest home);
        RequestNext 64 (assocBody 0 0 10) [] s ∧ findRecord 7 s = none ∧ seatTicketed 10 s = false ∧ s.capacity ≤ s.guests) ∧
      (let s := asked 64 (assocBody 0 0 10) (crowd 160 .claimant home);
        RequestNext 64 (assocBody 0 0 10) [] s ∧ findRecord 7 s = none ∧ 160 ≤ s.ast.records.length) ∧
      (let b := assocBody 3 5 0;
        RequestNext 64 b [] (asked 64 b home) ∧ readAssociate b = some (assocOf 3 5 0) ∧
          some 5 = home.ownSection ∧ some 3 = some home.station) ∧
      (let b := assocBody 0 6 0;
        RequestNext 64 b [] (asked 64 b home) ∧ readAssociate b = some (assocOf 0 6 0) ∧ home.ownSection ≠ some 6) ∧
      (let b := assocBody 2 5 0;
        RequestNext 64 b [] (asked 64 b home) ∧ readAssociate b = some (assocOf 2 5 0) ∧ home.sck.phase = .unknown) ∧
      (∀ st ∈ [NodeState.listening, .unconfigured, .muted], RequestNext 64 (assocBody 0 0 10) [] (asked 64 (assocBody 0 0 10) (node st))) := by
  refine ⟨?_, ?_, ?_, ?_, ?_, ?_, ?_, ?_⟩ <;> decide +kernel

theorem witness_AssociateMeetsRecord :
    let b := assocBody 2 5 0
    let grant : TxFrame := tx (.ctxGrant 7 10 none [])
    let waits (n : Nat) (l : List AssocRequest) (s : State) : State :=
      { s with hoe := { s.hoe with inflight := List.replicate n { entry .offer 1 .ended with client := 100 }, waitQueue := l } }
    let other : AssocRequest := { assocOf 2 5 0 with client := 8 }
    (readAssociate b = some (assocOf 2 5 0)) ∧
      (∀ node' ∈ [NodeState.joined, .muted],
        ∀ st ∈ [RecordState.active, .offering, .steered, .pulling, .expected, .releasing],
        let s := asked 64 b (with1 (rec st .guest) (node node'))
        RequestNext 64 b [] s ∧ findRecord 7 s = some (rec st .guest) ∧ (s.ast.records.map Record.client).Nodup ∧
          s.cfl.node = node' ∧ s.sck.phase = .unknown ∧ (rec st .guest).state = st ∧
          ∀ f ∈ s.rbc.urgent, f.body ≠ .ctxGrant 7 10 none []) ∧
      (∀ n ∈ [7, 8],
        let s := asked 64 b (waits 7 [] (urgentOf n (with1 (rec .expected .guest) (inPhase .preGates home))))
        RequestNext 64 b [] s ∧ s.sck.phase ≠ .unknown ∧ (rec .expected .guest).peer = some 2 ∧ s.hoe.waitQueue = [] ∧
          s.hoe.inflight.length < 8 ∧ s.rbc.urgent.length = n ∧ ∀ e ∈ s.hoe.inflight, e.client ≠ 7) ∧
      (∀ l ∈ [[other] ++ assocOf 2 5 0 :: [other], List.replicate 15 other, List.replicate 16 other],
        let s := asked 64 b (waits 8 l (with1 (rec .expected .guest) (inPhase .preGates home)))
        RequestNext 64 b [] s ∧ 8 ≤ s.hoe.inflight.length ∧ other.client ≠ 7 ∧
          (s.hoe.waitQueue = [other] ++ assocOf 2 5 0 :: [other] ∨
            ((∀ w ∈ s.hoe.waitQueue, w.client ≠ 7) ∧ (s.hoe.waitQueue.length < 16 ∨ 16 ≤ s.hoe.waitQueue.length)))) ∧
      (let s := asked 64 b (with1 (rec .releasing .guest) home);
        let s : State := { s with rbc := { s.rbc with urgent := [] ++ grant :: [] } }
        RequestNext 64 b [] s ∧ s.rbc.urgent = [] ++ grant :: [] ∧ grant.body = .ctxGrant 7 10 none [] ∧
          ∀ f ∈ [] ++ [] ++ s.rbc.routine, f.tag ≠ grant.tag) := by
  refine ⟨?_, ?_, ?_, ?_, ?_⟩ <;> decide +kernel

theorem witness_PullStarts :
    let b := assocBody 2 5 10
    let q := assocOf 2 5 10
    let other : AssocRequest := { q with client := 8 }
    let waits (n : Nat) (l : List AssocRequest) (s : State) : State :=
      { s with hoe := { s.hoe with inflight := List.replicate n { entry .offer 1 .ended with client := 100 }, waitQueue := l } }
    (∀ n ∈ [7, 8], ∀ x ∈ [Standing.empty, .issued ticket],
      let s := asked 64 b (waits 7 [] (urgentOf n (seated x (inPhase .preGates (crowd 15 .guest home)))))
      RequestNext 64 b [] s ∧ readAssociate b = some q ∧ s.cfl.node = .joined ∧ findRecord q.client s = none ∧
        s.ast.records.length < 160 ∧ s.guests < s.capacity ∧ seatTicketed 10 s = decide (x ≠ .empty) ∧
        q.prevSection = s.ownSection ∧ q.prevStation = some 2 ∧ 2 ≠ s.station ∧ s.sck.phase ≠ .unknown ∧
        s.rbc.urgent.length = n ∧ PullTaken false s ∧ ∀ e ∈ s.hoe.inflight, e.client ≠ q.client) ∧
      (∀ l ∈ [[other] ++ q :: [other], List.replicate 15 other, List.replicate 16 other],
        let s := asked 64 b (waits 8 l (inPhase .preGates home))
        RequestNext 64 b [] s ∧ ¬ PullTaken false s ∧ other.client ≠ q.client ∧
          (s.hoe.waitQueue = [other] ++ q :: [other] ∨
            ((∀ w ∈ s.hoe.waitQueue, w.client ≠ q.client) ∧
              (s.hoe.waitQueue.length < 16 ∨ 16 ≤ s.hoe.waitQueue.length)))) ∧
      (let s := waits 7 [q, other] (inPhase .preGates home);
        s.hoe.waitQueue = q :: [other] ∧ s.hoe.inflight.length < 8 ∧ LaneFree 1 s ∧ PullTaken true s) ∧
      (∀ st ∈ [RecordState.active, .offering, .steered, .pulling, .expected, .releasing],
        ∀ node' ∈ [NodeState.joined, .muted], ∀ p ∈ [Phase.unknown, .preGates], ∀ n ∈ [7, 8],
        let s := waits 7 [q, other] (urgentOf n (with1 (rec st .claimant) (inPhase p (node node'))))
        s.hoe.waitQueue = q :: [other] ∧ s.hoe.inflight.length < 8 ∧ LaneFree 1 s ∧ s.cfl.node = node' ∧
          findRecord q.client s = some (rec st .claimant) ∧ (s.ast.records.map Record.client).Nodup ∧
          (rec st .claimant).state = st ∧ s.sck.phase = p ∧ s.rbc.urgent.length = n ∧
          (∀ e ∈ s.hoe.inflight, e.client ≠ q.client) ∧ ∀ g ∈ s.rbc.urgent, g.body = .ctxNone 1) ∧
      (let s := waits 7 [q] (node .muted);
        s.hoe.waitQueue = q :: [] ∧ LaneFree 1 s ∧ s.cfl.node = .muted ∧ findRecord q.client s = none) ∧
      (∀ p ∈ [(0, 0), (3, 5), (0, 6), (2, 5)],
        let b := assocBody p.1 p.2 0
        RequestNext 64 b [] (asked 64 b home) ∧ readAssociate b = some (assocOf p.1 p.2 0) ∧ home.sck.phase = .unknown) ∧
      (RequestNext 64 b [] (asked 64 b (crowd 160 .claimant home)) ∧
        160 ≤ (crowd 160 .claimant home).ast.records.length ∧
        RequestNext 64 b [] (asked 64 b (crowd 16 .guest home)) ∧
        (crowd 16 .guest home).capacity ≤ (crowd 16 .guest home).guests ∧ seatTicketed 10 (crowd 16 .guest home) = false) := by
  refine ⟨?_, ?_, ?_, ?_, ?_, ?_, ?_⟩ <;> decide +kernel

theorem witness_DepartWithdrawsWaiting :
    let s := asked 66 seven home
    RequestNext 66 seven [] s ∧ readDepart seven = some 7 ∧ findRecord 7 s = none ∧
      ∀ w ∈ s.hoe.waitQueue, w.client ≠ 7 := by decide +kernel

theorem witness_RecordRemoved :
    (∀ st ∈ [RecordState.active, .offering, .steered, .pulling, .expected, .releasing],
      let s := asked 66 seven (with1 (rec st .guest) home)
      findRecord 7 s = some (rec st .guest) ∧ (rec st .guest).subs.Nodup ∧ RequestNext 66 seven [] s ∧
        readDepart seven = some 7 ∧ (rec st .guest).state = st) ∧
      (let s := with1 (rec .active .guest) home;
        (rec .active .guest).idle.isSome ∧ s.rsl.lane.length < 64 ∧ s.hoe.backlog = [] ∧ s.cku.backlog = [] ∧
          s.rsl.astBacklog = []) ∧
      (let s : State := { home with rsl := { home.rsl with lane := List.replicate 64 (.streamEnded 1) } };
        64 ≤ s.rsl.lane.length) ∧
      (∀ k ∈ [RecordTimer.claimant, .expectation],
        let r : Record := { rec .active .claimant with timer := some k }
        findRecord r.client (with1 r home) = some r ∧ r.timer = some k) := by decide +kernel

/-- A SUBSCRIBE or UNSUBSCRIBE of client 7 to stream 1. -/
def subBody : List Byte := seven ++ [1]

theorem witness_SubscriptionsAnswered :
    readSubscribe subBody = some (7, 1) ∧
      (∀ k ∈ [68, 69], RequestNext k subBody [] (asked k subBody home) ∧ findRecord 7 (asked k subBody home) = none) ∧
      (∀ k ∈ [68, 69], ∀ st ∈ [RecordState.active, .offering, .steered, .pulling, .expected, .releasing],
        let s := asked k subBody (with1 (rec st .guest) home)
        RequestNext k subBody [] s ∧ findRecord 7 s = some (rec st .guest) ∧ (rec st .guest).state = st ∧
          findStream 1 s = none ∧ 1 ∉ (rec st .guest).subs) ∧
      (∀ l ∈ [[], [2, 3, 4], [2, 3, 4, 5], [1]], ∀ w ∈ [true, false],
        let r : Record := { rec .active .guest with subs := l }
        let st : Machine.Stream := { stream .idle 0 with withdrawn := w }
        let s := asked 68 subBody (with1s st [] (with1 r home))
        RequestNext 68 subBody [] s ∧ findRecord 7 s = some r ∧ findStream 1 s = some st ∧ st.withdrawn = w ∧
          r.subs = l) ∧
      (let r : Record := { rec .active .guest with subs := [1] };
        let s := asked 69 subBody (with1 r home)
        RequestNext 69 subBody [] s ∧ findRecord 7 s = some r ∧ 1 ∈ r.subs) ∧
      (∀ n ∈ [1, 2], 0 < (stream .live n).subscribers ∧ (stream .live n).cursor.current = none) := by
  refine ⟨?_, ?_, ?_, ?_, ?_, ?_⟩ <;> decide +kernel

/-- A CTX_PULL of station 2 for client 7. -/
def pullFrame (since : Nat) : BusFrame := frame 2 2 (seven ++ beBytes 4 since ++ beBytes 1 1)

theorem witness_CtxPullDecided :
    (∀ since ∈ [10, 11], readPull (pullFrame since).payload = some (7, since) ∧
        ∀ n ∈ [7, 8], ∀ st ∈ [RecordState.active, .offering, .steered, .pulling, .expected, .releasing],
          let s := urgentOf n (with1 (rec st .guest) (inPhase .preGates home))
          FrameTaken 2 2 (pullFrame since) s ∧ TableInv s ∧ s.cfl.node = .joined ∧
            s.rbc.urgent.length = n ∧ findRecord 7 s = some (rec st .guest) ∧ (rec st .guest).state = st ∧
            (rec st .guest).since = 10 ∧ s.sck.phase ≠ .unknown) ∧
      (FrameTaken 2 2 (pullFrame 10) home ∧ home.sck.phase = .unknown ∧ findRecord 7 home = none ∧ TableInv home) ∧
      (FrameTaken 2 2 (pullFrame 10) (node .muted) ∧ (node .muted).cfl.node ≠ .joined) ∧
      (let s := with1e { entry .offer 1 .queued with tag := 9 } (urgentOf 8 (with1 (rec .offering .guest) home));
        FrameTaken 2 2 (pullFrame 10) s ∧ s.rbc.urgent.length = 8 ∧
          (inflightGone 7 (carrierEnded s)).rbc.urgent.length < 8 ∧ s.sck.phase = .unknown) ∧
      (∀ st ∈ [RecordState.active, .offering, .steered],
        let r : Record := { rec st .guest with granted := [{ station := 2, since := 11 }] }
        let s := with1 r (inPhase .preGates home)
        FrameTaken 2 2 (pullFrame 11) s ∧ findRecord 7 s = some r ∧ r.since < 11 ∧ r.state = st ∧
          { station := 2, since := 11 } ∈ r.granted ∧ { station := 2, since := 12 } ∉ r.granted ∧ TableInv s) := by
  refine ⟨?_, ?_, ?_, ?_, ?_⟩ <;> decide +kernel

/-- 2.9, case A: the client is ACTIVE again after its grant has been withdrawn, and the retry of the pull meets CTX_NONE; a later
pull of the same station is granted. -/
theorem test_retry_after_withdrawal_meets_none :
    let s := associate false (assocOf 0 0 0) (receive 2 (pullFrame 11) (with1 (rec .active .guest) (inPhase .preGates home)))
    (s.ast.records.map Record.state = [.active] ∧ s.rbc.urgent = []) ∧
      (receive 2 (pullFrame 11) s).rbc.urgent.map TxFrame.body = [.ctxNone 7] ∧
      (receive 2 (pullFrame 11) s).ast = s.ast ∧
      (receive 2 (pullFrame 12) s).rbc.urgent.map TxFrame.body = [.ctxGrant 7 10 none []] := by decide +kernel

/-- A CTX_GRANT of station 2 for client 7: with a binding to seat 10 or none, and the streams 1 and 9. -/
def grantFrame (bound : Bool) : BusFrame :=
  frame 3 2 (seven ++ beBytes 4 4 ++ (if bound then beBytes 1 1 ++ beBytes 4 100 ++ beBytes 2 10 else beBytes 7 0) ++ [2, 1, 9])

/-- A client with no in-flight entry matches no reply. -/
theorem no_entry_matches {k : InflightKind} {a client : Nat} {s : State} (h : findInflight client s = none) (e : Inflight) :
    ¬ EntryMatches k a client e s := by
  intro h'
  rw [h'.1] at h
  cases h

theorem witness_GrantInstallsContext :
    (∀ bound ∈ [true, false], ∀ cls ∈ [ClientClass.guest, .claimant, .home],
      let s := with1s (stream .idle 0) [] (with1e (entry .pull 1 .ended) (with1 (rec .pulling cls)
        (seated (.checkedIn ticket 7 4) home)))
      (FrameTaken 3 2 (grantFrame bound) s ∧ (readGrant (grantFrame bound).payload).isSome) ∧ s.cfl.node = .joined ∧
        EntryMatches .pull 2 7 (entry .pull 1 .ended) s ∧ findRecord 7 s = some (rec .pulling cls) ∧
        (s.ast.records.map Record.client).Nodup ∧ (s.rpc.streams.map Stream.id).Nodup ∧ checkedInBy 7 10 s = true) ∧
      (FrameTaken 3 2 (grantFrame true) home ∧ ReplyIgnored .pull 2 7 home) :=
  ⟨by decide +kernel, by decide +kernel, .inr (no_entry_matches (by decide))⟩

theorem witness_PullRepliesTaken :
    (∀ k ∈ [4, 5],
      let s := with1e (entry .pull 2 .ended) (with1 (rec .pulling .guest) home)
      (FrameTaken k 2 (frame k 2 seven) s ∧ readClient (frame k 2 seven).payload = some 7) ∧ s.cfl.node = .joined ∧
        EntryMatches .pull 2 7 (entry .pull 2 .ended) s ∧ findRecord 7 s = some (rec .pulling .guest) ∧
        TableInv s ∧ (rec .pulling .guest).state = .pulling) ∧
      (∀ k ∈ [4, 5], FrameTaken k 2 (frame k 2 seven) home) ∧ ReplyIgnored .pull 2 7 home :=
  ⟨by decide +kernel, by decide +kernel, .inr (no_entry_matches (by decide))⟩

theorem witness_ResponseTimeouts :
    (∀ st ∈ [NodeState.joined, .muted], ∀ n ∈ [1, 2], ∀ k ∈ [InflightKind.pull, .offer],
      let s := urgentOf 7 (with1e (entry k n .queued) (with1 (rec .pulling .guest) (node st)))
      findInflight 7 s = some (entry k n .queued) ∧ (entry k n .queued).timer = some 400 ∧
        findRecord 7 s = some (rec .pulling .guest) ∧ (s.ast.records.map Record.client).Nodup ∧
        (s.hoe.inflight.map Inflight.client).Nodup ∧ (entry k n .queued).kind = k ∧ (entry k n .queued).attempt = n ∧
        s.cfl.node = st ∧ s.rbc.urgent.length < 8 ∧ ∀ g ∈ s.rbc.routine, g.tag ≠ (entry k n .queued).tag) ∧
      ∀ fr ∈ [FrameStatus.queued, .inTransmission, .ended], ∀ tag ∈ [0, 9],
        let e : Inflight := { entry .pull 1 fr with tag := tag }
        let s := urgentOf 8 (with1e e (with1 (rec .pulling .guest) home))
        (findInflight 7 s = some e ∧ s.cfl.node = .joined ∧ 8 ≤ s.rbc.urgent.length ∧ e.attempt = 1 ∧ e.frame = fr) ∧
          ((s.rbc.urgent.filter fun g => g.tag ≠ e.tag).length < 8 ↔ tag = 9) := by
  refine ⟨?_, ?_⟩ <;> decide +kernel

/-- A STEER_OFFER of station 2 for client 7, bound to seat 10 or to none. -/
def offerFrame (bound : Bool) : BusFrame :=
  frame 6 2 (seven ++ optionalBytes 2 (if bound then some 10 else none) ++ [2])

theorem witness_OfferDecided :
    (∀ bound ∈ [true, false],
      let s := urgentOf 7 (seated (.checkedIn ticket 7 4) home)
      FrameTaken 6 2 (offerFrame bound) s ∧
        readOffer (offerFrame bound).payload = some (7, if bound then some 10 else none) ∧ s.cfl.config = some conf ∧
        s.cfl.node = .joined ∧ findRecord 7 s = none ∧ s.ast.records.length < 160 ∧
        s.prm.monitor = .normal ∧ hypothetical conf s < conf.high ∧ s.guests < conf.capacity) ∧
      (FrameTaken 6 2 (offerFrame true) (node .muted) ∧ (node .muted).cfl.node ≠ .joined) ∧
      (findRecord 7 (with1 (rec .active .guest) home)).isSome ∧
      (FrameTaken 6 2 (offerFrame false) (crowd 160 .claimant home) ∧
        160 ≤ (crowd 160 .claimant home).ast.records.length ∧ findRecord 7 (crowd 160 .claimant home) = none) ∧
      (FrameTaken 6 2 (offerFrame false) (crowd 16 .guest home) ∧ conf.capacity ≤ (crowd 16 .guest home).guests) := by
  refine ⟨?_, ?_, ?_, ?_, ?_⟩ <;> decide +kernel

theorem witness_SteerRepliesTaken :
    (let s := with1e (entry .offer 1 .ended) (with1 (rec .offering .guest) (nextDoor home));
      (FrameTaken 7 2 (frame 7 2 seven) s ∧ readClient (frame 7 2 seven).payload = some 7) ∧
        (FrameTaken 8 2 (frame 8 2 (seven ++ [1])) s ∧ readDecline (frame 8 2 (seven ++ [1])).payload = some 7) ∧
        s.cfl.node = .joined ∧ EntryMatches .offer 2 7 (entry .offer 1 .ended) s ∧
        findRecord 7 s = some (rec .offering .guest) ∧ (s.ast.records.map Record.client).Nodup) ∧
      (FrameTaken 8 2 (frame 8 2 (seven ++ [0])) (node .listening) ∧ (node .listening).cfl.node ≠ .joined ∧
        (node .listening).cfl.node ≠ .muted) ∧
      (let r : Record := { rec .steered .guest with timer := some .steer };
        findRecord 7 (with1 r home) = some r ∧ r.timer = some .steer) ∧
      ReplyIgnored .offer 2 7 home ∧ ∀ x, ¬ EntryMatches .offer 2 7 x home :=
  ⟨by decide +kernel, by decide +kernel, by decide +kernel, .inr (no_entry_matches (by decide)),
    no_entry_matches (by decide)⟩

/-- A presentation of ticket 100 with serial 1 by client 7. -/
def shown (seat sect : Nat) : Presentation :=
  let p : Presentation := { client := 7, ticket := 100, seat := seat, sectionId := sect, tier := 0, serial := 1, code := 0 }
  let covered := beBytes 4 100 ++ beBytes 2 seat ++ beBytes 1 sect ++ beBytes 1 0 ++ beBytes 2 1
  { p with code := crc16 conf.siteKey covered }

/-- The body of the PRESENT_TICKET that shows it. -/
def shownBody (p : Presentation) : List Byte :=
  seven ++ beBytes 4 p.ticket ++ beBytes 2 p.seat ++ beBytes 1 p.sectionId ++ beBytes 1 p.tier ++ beBytes 2 p.serial ++
    beBytes 2 p.code.toNat

theorem witness_PresentationDecided :
    ∀ st ∈ [NodeState.joined, .muted], ∀ x ∈ [Standing.empty, .void ticket, .issued ticket,
      .issued { ticket with serial := 2 }, .checkedIn ticket 7 4, .checkedIn ticket 8 4,
      .checkedIn { ticket with number := 9 } 8 4],
      let p := shown 10 5
      let r := rec .active .claimant
      let s := asked 67 (shownBody p) (routineOf 8 (seated x (with1 r (node st))))
      PresentationNext conf r p (shownBody p) [] s ∧ ChecksPassed conf r p s ∧ TableInv s ∧
        s.rbc.routine.length = 8 ∧ seatIndex p.seat s = some 0 ∧
        s.ens.seats[0]? = some { standing := x, revision := 3, duplicates := 14 } := by decide +kernel

theorem witness_PresentationRefused :
    (let p := shown 4096 5;
      let r := rec .active .claimant
      let s := asked 67 (shownBody p) (with1 r home)
      PresentationNext conf r p (shownBody p) [] s ∧ TableInv s ∧ findClaim 7 s = none ∧ ChecksPassed conf r p s ∧
        seatIndex p.seat s = none ∧ 4095 < p.seat) ∧
      (let p := shown 10 6;
        let r : Record := { rec .active .claimant with badCodes := 3 }
        let s := asked 67 (shownBody p) (with1 r home)
        PresentationNext conf r p (shownBody p) [] s ∧ r.badCodes ≠ 4 ∧ p.sectionId ≠ conf.sectionId) ∧
      (let p : Presentation := { shown 10 5 with code := (shown 10 5).code + 1 };
        let r : Record := { rec .active .claimant with badCodes := 3 }
        let s := asked 67 (shownBody p) (with1 r home)
        PresentationNext conf r p (shownBody p) [] s ∧ r.badCodes < 4 ∧ ¬ CodeRight conf p) ∧
      (let p := shown 10 5;
        let r : Record := { rec .active .claimant with badCodes := 4 }
        let s := asked 67 (shownBody p) (with1 r home)
        PresentationNext conf r p (shownBody p) [] s ∧ findClaim 7 s = none ∧ r.badCodes = 4) ∧
      (let p := shown 33 5;
        let r := rec .active .guest
        let s := asked 67 (shownBody p) (with1c (with1 r (nextDoor home)))
        PresentationNext conf r p (shownBody p) [] s ∧ TableInv s ∧ (findClaim 7 s).isSome) ∧
      (let p := shown 33 5;
        let r := rec .active .guest
        let s := asked 67 (shownBody p) (with1 r (nextDoor home))
        let s : State := { s with cku := { s.cku with claims := List.replicate 8 { claim with client := 8 } } }
        PresentationNext conf r p (shownBody p) [] s ∧ ChecksPassed conf r p s ∧ seatIndex p.seat s = none ∧
          ownerOf p.seat s = some 2 ∧ 8 ≤ s.cku.claims.length) ∧
      (∀ st ∈ [RecordState.offering, .steered, .pulling, .expected, .releasing],
        let s := asked 67 (shownBody (shown 10 5)) (with1 (rec st .guest) home)
        RequestNext 67 (shownBody (shown 10 5)) [] s ∧ findRecord 7 s = some (rec st .guest) ∧
          (s.ast.records.map Record.client).Nodup) := by
  refine ⟨?_, ?_, ?_, ?_, ?_, ?_, ?_⟩ <;> decide +kernel

theorem witness_RemoteClaimStarted :
    ∀ st ∈ [NodeState.joined, .muted], ∀ n ∈ [7, 8],
      let p := shown 33 5
      let r := rec .active .guest
      let s := asked 67 (shownBody p) (urgentOf n (with1 r (nextDoor (node st))))
      let s : State := { s with cku := { s.cku with claims := List.replicate 7 { claim with client := 8 } } }
      PresentationNext conf r p (shownBody p) [] s ∧ TableInv s ∧ ChecksPassed conf r p s ∧ seatIndex p.seat s = none ∧
        1 ≤ p.seat ∧ p.seat ≤ 4095 ∧ ownerOf p.seat s = some 2 ∧ s.cku.claims.length < 8 ∧ s.cfl.node = st ∧
        s.rbc.urgent.length = n := by decide +kernel

/-- A CHECKIN_CLAIM of station 2 for client 7 and a seat. -/
def claimFrame (seat : Nat) : BusFrame :=
  frame 9 2 (seven ++ beBytes 4 100 ++ beBytes 2 seat ++ beBytes 2 1 ++ beBytes 1 0)

theorem witness_CheckinClaimDecided :
    (∀ x ∈ [Standing.empty, .void ticket, .issued ticket, .issued { ticket with serial := 2 }, .checkedIn ticket 7 4,
      .checkedIn ticket 8 4, .checkedIn { ticket with number := 9 } 8 4],
      let s := routineOf 8 (urgentOf 8 (seated x home))
      FrameTaken 9 2 (claimFrame 10) s ∧
        readClaim (claimFrame 10).payload = some { client := 7, ticket := 100, seat := 10, serial := 1 } ∧
        s.cfl.node = .joined ∧ (claimFrame 10).dest.toNat = s.station ∧ s.rbc.urgent.length = 8 ∧
        s.rbc.routine.length = 8 ∧ seatIndex 10 s = some 0 ∧
        s.ens.seats[0]? = some { standing := x, revision := 3, duplicates := 14 }) ∧
      (∀ seat ∈ [9, 30], FrameTaken 9 2 (claimFrame seat) home ∧ seatEntry seat home = none) ∧
      (FrameTaken 9 2 (claimFrame 10) (node .muted) ∧ (node .muted).cfl.node ≠ .joined) := by
  refine ⟨?_, ?_, ?_⟩ <;> decide +kernel

/-- A CHECKIN_VERDICT of a station for the claim of client 7. -/
def verdictFrame (source result : Nat) : BusFrame :=
  frame 10 source (seven ++ beBytes 4 100 ++ beBytes 2 30 ++ beBytes 1 result ++ beBytes 1 15)

theorem witness_ClaimEnds :
    (∀ v ∈ [Verdict.admitted, .unknownSeat, .voided, .notCurrent, .duplicate, .noOwner],
      readVerdict (verdictFrame 2 v.code).payload =
          some { client := 7, ticket := 100, seat := 30, result := v, duplicates := 15 } ∧
        FrameTaken 10 2 (verdictFrame 2 v.code) home) ∧
      (∀ st ∈ [RecordState.active, .offering, .steered, .pulling, .expected, .releasing],
        let s := with1c (with1 (rec st .claimant) home)
        TableInv s ∧ findClaim 7 s = some claim ∧ s.cfl.node = .joined ∧
          (claim.owner = 2 ∧ claim.seat = 30 ∧ claim.ticket = 100) ∧ findRecord 7 s = some (rec st .claimant) ∧
          checkedInBy 7 30 s = false ∧ claim.timer.isSome) ∧
      (let k : Claim := { claim with seat := 10 };
        let s := seated (.checkedIn ticket 7 4) (with1 (rec .active .guest) home)
        let s : State := { s with cku := { s.cku with claims := [k] } }
        let f := frame 10 2 (seven ++ beBytes 4 100 ++ beBytes 2 10 ++ beBytes 2 0)
        TableInv s ∧ findClaim 7 s = some k ∧ checkedInBy 7 k.seat s = true ∧ FrameTaken 10 2 f s ∧
          readVerdict f.payload = some { client := 7, ticket := 100, seat := 10, result := .admitted, duplicates := 0 }) ∧
      (findClaim 7 home = none ∧ TableInv home) ∧
      (findClaim 7 (with1c home) = some claim ∧ findRecord 7 (with1c home) = none) ∧
      (FrameTaken 10 4 (verdictFrame 4 0) (with1c home) ∧ claim.owner ≠ 4) ∧
      (FrameTaken 10 2 (verdictFrame 2 0) (with1c (node .listening)) ∧ (node .listening).cfl.node ≠ .joined ∧
        (node .listening).cfl.node ≠ .muted) := by
  refine ⟨?_, ?_, ?_, ?_, ?_, ?_, ?_⟩ <;> decide +kernel

/-- An ENTITLEMENT frame for a seat, a ticket number and a revision; the fill state is `fill`, with client 7 or none. -/
def updateFrame (code seat number revision fill : Nat) (client : Bool) : BusFrame :=
  frame 33 30 (beBytes 2 seat ++ beBytes 1 code ++ beBytes 4 number ++ beBytes 2 1 ++ beBytes 1 0 ++ beBytes 2 revision ++
    beBytes 1 fill ++ optionalBytes 6 (if client then some 7 else none) ++ optionalBytes 4 none)

/-- What the node reads from it. -/
def updateOf (action : Action) (seat number revision : Nat) (fill : FillState) (client : Bool) : Entitlement where
  seat := seat
  action := action
  ticket := { number := number, serial := 1, tier := .general }
  revision := revision
  fill := some fill
  client := if client then some 7 else none
  time := none

/-- The JOINED node with the first seat in a standing and its groups frozen by a mask. -/
def guarded (x : Standing) (mask : BitVec 16) : State :=
  let s := seated x home
  { s with ens := { s.ens with freeze := mask } }

/-- The entry of that seat. -/
def entryOf0 (x : Standing) : SeatEntry := { standing := x, revision := 3, duplicates := 14 }

/-- The standings that the clauses name. -/
def standings : List Standing := [.empty, .issued ticket, .checkedIn ticket 7 4, .void ticket]

theorem witness_EntitlementRefused :
    (∀ p ∈ [(0, Action.issue), (1, .reissue), (2, .void), (3, .clearCheckin)],
      let f := updateFrame p.1 10 100 3 1 true
      UpdateNext (BitVec.ofNat 8 p.1) 30 f conf 0 (entryOf0 (.issued ticket)) (updateOf p.2 10 100 3 .issued true)
          (guarded (.issued ticket) 1) ∧
        GroupFrozen conf 0 (guarded (.issued ticket) 1) ∧ ¬ GroupFrozen conf 0 (guarded (.issued ticket) 2)) ∧
      (∀ seat ∈ [9, 30], seatIndex seat home = none ∧ FrameTaken 33 30 (withAction 4 (updateFrame 4 seat 100 3 1 true)) home) := by
  refine ⟨?_, ?_⟩ <;> decide +kernel

theorem witness_IssuePlacesTicket :
    (∀ x ∈ standings, UpdateNext 0 30 (updateFrame 0 10 100 4 1 true) conf 0 (entryOf0 x)
      (updateOf .issue 10 100 4 .issued true) (guarded x 2)) ∧
      (∀ x ∈ standings, UpdateNext 1 30 (updateFrame 1 10 100 4 1 true) conf 0 (entryOf0 x)
        (updateOf .reissue 10 100 4 .issued true) (guarded x 2)) ∧
      (∀ x ∈ standings, UpdateOpen conf 0 (entryOf0 x) (updateOf .issue 10 100 4 .issued true) (guarded x 2) ∧
        TicketFree 0 100 (guarded x 2)) ∧
      TicketAt 0 19 100 (entryOf0 (.issued ticket)) (guarded (.issued ticket) 0) ∧
      TicketAt 0 19 100 (entryOf0 (.issued ticket)) (guarded (.issued ticket) 1) ∧
      UpdateNext 0 30 (updateFrame 0 29 100 1 1 true) conf 19 emptySeat (updateOf .issue 29 100 1 .issued true)
        (guarded (.issued ticket) 1) := by
  refine ⟨?_, ?_, ?_, ?_, ?_, ?_⟩ <;> decide +kernel

theorem witness_VoidAndClearDecided :
    (∀ x ∈ standings, UpdateNext 2 30 (updateFrame 2 10 100 4 1 true) conf 0 (entryOf0 x)
      (updateOf .void 10 100 4 .issued true) (guarded x 2)) ∧
      (∀ x ∈ standings, UpdateNext 3 30 (updateFrame 3 10 100 4 1 true) conf 0 (entryOf0 x)
        (updateOf .clearCheckin 10 100 4 .issued true) (guarded x 2)) ∧
      (∀ x ∈ standings, UpdateOpen conf 0 (entryOf0 x) (updateOf .void 10 100 4 .issued true) (guarded x 2) ∧
        TicketFree 0 100 (guarded x 2)) ∧
      TicketAt 0 19 100 (entryOf0 (.issued ticket)) (guarded (.issued ticket) 0) ∧
      TicketAt 0 19 100 (entryOf0 (.issued ticket)) (guarded (.issued ticket) 1) ∧
      (∀ t k n, (Standing.issued ticket) ≠ .checkedIn t k n) :=
  ⟨by decide +kernel, by decide +kernel, by decide +kernel, by decide +kernel, by decide +kernel, (by intro t k n h; cases h)⟩

theorem witness_ResyncFillDecided :
    (∀ x ∈ [(1, FillState.issued, true), (2, .checkedIn, true), (2, .checkedIn, false), (3, .void, false)],
      UpdateNext 4 30 (updateFrame 4 10 100 0 x.1 x.2.2) conf 0 (entryOf0 .empty) (updateOf .resyncFill 10 100 0 x.2.1 x.2.2)
          (guarded .empty 1) ∧ TicketFree 0 100 (guarded .empty 1)) ∧
      (∀ x ∈ standings.tail, UpdateNext 4 30 (updateFrame 4 10 100 0 1 true) conf 0 (entryOf0 x)
          (updateOf .resyncFill 10 100 0 .issued true) (guarded x 1) ∧ x ≠ .empty) ∧
      (UpdateNext 4 30 (updateFrame 4 11 100 0 1 true) conf 1 emptySeat (updateOf .resyncFill 11 100 0 .issued true)
          (guarded (.issued ticket) 1) ∧ ¬ TicketFree 1 100 (guarded (.issued ticket) 1)) := by
  refine ⟨?_, ?_, ?_⟩ <;> decide +kernel

theorem witness_FreezeAndUnfreeze :
    ∀ p ∈ [(34, 10, true), (34, 11, true), (35, 10, true), (35, 10, false), (35, 11, true)],
      let f := frame p.1 30 (beBytes 2 p.2.1 ++ beBytes 2 0x8001)
      let s : State := { home with cfl := { home.cfl with service := p.2.2 } }
      readFreeze f.payload = some (p.2.1, 0x8001#16) ∧ s.hearing = true ∧ s.cfl.config = some conf ∧
        FrameTaken p.1 30 f s := by decide +kernel

/-- The node after reset with its first freeze group frozen. -/
def frozen0 : State := { State.reset with ens := { State.reset.ens with freeze := 1#16 } }

theorem witness_RulesOfEveryCommand :
    (∀ strap, Instr.siteTimeTick ≠ .fullReset strap) ∧ exec .siteTimeTick frozen0 = .next frozen0 ∧
      frozen0.cfl.service = false ∧ frozen0.ens.freeze.getLsbD 0 = true :=
  ⟨fun _ h => (by cases h), rfl, rfl, rfl⟩

/-- An announce of stream 1 with a demand. -/
def announce (demand : Nat) : Announce :=
  { id := 1, priority := 1, demand := demand, chunks := 2, chunkLength := 64, padding := .rep, alignment := .left }

/-- The STREAM_ANNOUNCE frame that carries it. -/
def announceFrame (demand : Nat) : BusFrame :=
  frame 36 30 ([1, 1] ++ beBytes 1 demand ++ [2] ++ beBytes 2 64 ++ [0, 0])

/-- The node with a full stream table of other streams, the second of which, and later ones, are in a state. -/
def fullTable (st : StreamState) (s : State) : State :=
  { s with rpc := { s.rpc with streams := { stream .live 1 with id := 2 } ::
    ((List.range 7).map fun i => { stream st 0 with id := 3 + i }) } }

theorem witness_AnnounceDecided :
    (∀ d ∈ [0, 6], FrameTaken 36 30 (announceFrame d) home ∧ readAnnounce (announceFrame d).payload = some (announce d) ∧
        home.hearing = true ∧ findStream 1 home = none ∧ home.rpc.streams.length + home.rpc.endReports.length < 8) ∧
      (let s : State := { home with rpc := { home.rpc with endReports := [1] } };
        FrameTaken 36 30 (announceFrame 2) s ∧ 1 ∈ s.rpc.endReports) ∧
      (∀ w ∈ [true, false], ∀ q ∈ [none, some 5], ∀ d ∈ [0, 2],
        let st : Machine.Stream := { stream .live 1 with withdrawn := w, cursor := { emptyCursor with current := q } }
        let s := with1s st [] home
        FrameTaken 36 30 (announceFrame d) s ∧ findStream 1 s = some st ∧ 1 ∉ s.rpc.endReports) ∧
      (∀ k ∈ [StreamState.live, .idle],
        FrameTaken 36 30 (announceFrame 2) (fullTable k home) ∧
          8 ≤ (fullTable k home).rpc.streams.length + (fullTable k home).rpc.endReports.length ∧
          findStream 1 (fullTable k home) = none ∧ ((fullTable k home).rpc.streams.map Stream.id).Nodup) ∧
      ((∀ x ∈ (fullTable .live home).rpc.streams, x.state ≠ .idle) ∧
        (∀ x ∈ (fullTable .idle home).rpc.streams.take 1, x.state ≠ .idle) ∧
        (∀ x ∈ (fullTable .idle home).rpc.streams.drop 1, x.state = .idle ∧ x.withdrawn = false ∧ x.subscribers = 0 ∧
          ∀ g ∈ (fullTable .idle home).rpc.cache, g.stream ≠ x.id)) := by
  refine ⟨?_, ?_, ?_, ?_, ?_⟩ <;> decide +kernel

/-- A SEGMENT frame of stream 1: sequence, index, stamp and a payload of `n` bytes, of two chunks. -/
def segmentFrame (q i stamp n : Nat) : BusFrame :=
  frame 37 30 ([1] ++ beBytes 2 q ++ beBytes 1 i ++ [2] ++ beBytes 4 stamp ++ List.replicate n 9)

/-- What the node reads from it. -/
def chunkOf (q i stamp n : Nat) : Chunk :=
  { stream := 1, sequence := q, index := i, count := 2, stamp := stamp, payload := List.replicate n 9 }

/-- The node with stream 1 LIVE and a full cache: 63 records of stream 1 and one more. -/
def fullCache (last : SegmentState) : State :=
  with1s (stream .live 1) ((List.range 63).map (fun i => segment (100 + i) .sending) ++ [segment 7 last]) home

/-- A frame that `frame` makes is neither damaged nor unreadable. -/
theorem frame_good (kind source : Nat) (p : List Byte) (hp : p.length ≤ 1100) (h1 : 1 ≤ source) (h2 : source ≤ 31) :
    frameGood (BitVec.ofNat 8 kind) (frame kind source p) = true := by
  have hs : source % 256 = source := by omega
  have hl : p.length % 65536 = p.length := by omega
  have hn : BitVec.ofNat 8 source ≠ 0#8 := by
    intro h
    have := congrArg BitVec.toNat h
    simp [hs] at this
    omega
  simp [frameGood, headerReadable, frame, hs, hl, hp, h2, hn, frameCheck, frameHeader]

/-- A state whose receiver is on, of station 3, that sends nothing. -/
abbrev Listens (s : State) : Prop :=
  s.rbc.receiver = true ∧ s.rbc.sends = false ∧ s.rbc.ownRun = false ∧ s.station = 3

/-- Such a state takes every SEGMENT frame of `segmentFrame`. -/
theorem segment_taken (q i stamp n : Nat) (s : State) (hn : n ≤ 1024) (h : Listens s) :
    FrameTaken 37 30 (segmentFrame q i stamp n) s := by
  refine ⟨h.1, h.2.1, h.2.2.1, frame_good 37 30 _ ?_ (by decide) (by decide), rfl, by simp [h.2.2.2], .inr ?_⟩
  · simp [beBytes]; omega
  · rw [h.2.2.2]; rfl

theorem witness_SegmentStored :
    (Listens home ∧ readSegment (segmentFrame 9 1 0 64).payload = some (chunkOf 9 1 0 64) ∧ findStream 1 home = none) ∧
      (∀ p ∈ [(StreamState.idle, false), (.live, true)],
        let st : Machine.Stream := { stream p.1 1 with withdrawn := p.2 }
        Listens (with1s st [] home) ∧ findStream 1 (with1s st [] home) = some st ∧ (st.state = .idle ∨ st.withdrawn = true)) ∧
      (∀ t ∈ [none, some 8, some 9, some 32778], ∀ len ∈ [64, 63], ∀ i ∈ [1, 2],
        let st : Machine.Stream := { stream .live 1 with cursor := { emptyCursor with lastSent := t } }
        let s := with1s st [] home
        Listens s ∧ readSegment (segmentFrame 9 i 0 len).payload = some (chunkOf 9 i 0 len) ∧
          findSegment 1 9 s = none ∧ s.rpc.cache.length < 64 ∧ findStream 1 s = some st) ∧
      (∀ k ∈ [SegmentState.spent, .filling, .complete, .sending],
        (fullCache k).rpc.cache.length = 64 ∧ Listens (fullCache k) ∧ findSegment 1 9 (fullCache k) = none ∧
          ((fullCache k).rpc.cache.map fun r => (r.stream, r.sequence)).Nodup) ∧
      (∀ k ∈ [SegmentState.spent, .filling, .complete, .sending], ∀ stamp ∈ [0, 1], ∀ i ∈ [0, 1, 2],
        let s := with1s (stream .live 1) [segment 9 k] home
        Listens s ∧ readSegment (segmentFrame 9 i stamp 64).payload = some (chunkOf 9 i stamp 64) ∧
          findSegment 1 9 s = some (segment 9 k) ∧ (chunkAt 0 (segment 9 k).chunks).isSome) ∧
      (∀ s, Listens s → FrameTaken 37 30 (segmentFrame 9 1 0 64) s ∧ FrameTaken 37 30 (segmentFrame 9 1 0 63) s) := by
  refine ⟨?_, ?_, ?_, ?_, ?_, fun s h => ⟨segment_taken _ _ _ _ s (by decide) h, segment_taken _ _ _ _ s (by decide) h⟩⟩ <;>
    decide +kernel

theorem witness_SlotStartEmits :
    (∀ n ∈ [2, 3], (inSlot n home).sls.running = true ∧ (inSlot n home).sls.slot + 2 < (inSlot n home).slots ∧
        StreamKeys (inSlot n home) ∧ (inSlot n home).sls.inForce = some mapOf) ∧
      mapOf.places[3]? = some none ∧ mapOf.places[4]? = some (some place1) ∧ findStream 1 (inSlot 3 home) = none ∧
      (∀ k ∈ [StreamState.idle, .live, .draining], findStream 1 (inSlot 3 (with1s (stream k 1) [] home)) = some (stream k 1)) ∧
      (∀ i ∈ [0, 1], ∀ k ∈ [StreamState.live, .draining], ∀ w ∈ [true, false],
        let st : Machine.Stream := { stream k 1 with
          withdrawn := w, cursor := { emptyCursor with current := some 9, nextIndex := i } }
        let s := inSlot 3 (with1s st [segment 9 .sending] home)
        findStream 1 s = some st ∧ findSegment 1 9 s = some (segment 9 .sending) ∧ StreamKeys s ∧
          chunkAt i (segment 9 .sending).chunks = some (List.replicate 64 (BitVec.ofNat 8 (i + 1)))) := by
  refine ⟨?_, ?_, ?_, ?_, ?_, ?_⟩ <;> decide +kernel

/-- Choices of R146: nothing ahead; one, eight and nine records ahead of 65530; eight and nine with no last sent sequence. -/
theorem witness_SlotEmitted :
    (∀ t ∈ [some 8, some 9, some 32777],
      let l := [segment 9 .complete]
      (∃ t', t = some t' ∧ (AheadOf t' (segment 9 .complete) ∨ ¬ AheadOf t' (segment 9 .complete))) ∧
        StreamKeys (with1s (stream .live 1) l home) ∧ (chunkAt 0 (segment 9 .complete).chunks).isSome) ∧
      (¬ AheadOf 9 (segment 9 .complete) ∧ AheadOf 8 (segment 9 .complete) ∧
        AheadOf 42778 (segment 9 .complete) ∧ ¬ AheadOf 32777 (segment 9 .complete)) ∧
      (∀ n ∈ [1, 8, 9], ∀ k ∈ [1, 2],
        let l := segment 65529 .complete :: (List.range n).map fun i => { segment (65532 + i - if 4 ≤ i then 65536 else 0) .complete with count := k }
        let r : SegmentRecord := { segment (if n = 9 then 1 else 65532) .complete with count := k }
        StreamKeys (with1s (stream .live 1) l home) ∧ r ∈ l ∧ CompleteFor place1 r ∧ StaysComplete place1 65530 l r ∧
          (∀ x ∈ l, CompleteFor place1 x → StaysComplete place1 65530 l x → aheadBy r 65530 ≤ aheadBy x 65530) ∧
          (chunkAt 0 r.chunks).isSome) ∧
      (∀ n ∈ [8, 9],
        let l := (List.range n).map fun i => segment i .complete
        let pre := segment 100 .filling :: if n = 9 then l.take 5 else []
        let post := l.drop (pre.length)
        let r := segment (if n = 9 then 5 else 0) .complete
        CompleteFor place1 r ∧ (chunkAt 0 r.chunks).isSome ∧
          ((n = 8 ∧ ∀ x ∈ pre, ¬ CompleteFor place1 x) ∨ (n = 9 ∧ post.countP (fun y => CompleteFor place1 y) = 3)) ∧
          (pre ++ r :: post).countP (fun y => CompleteFor place1 y) = n) := by
  refine ⟨?_, ?_, ?_, ?_⟩ <;> decide +kernel

theorem witness_MapsComeIntoForce :
    (∀ reset ∈ [true, false], ∀ m ∈ [none, some mapOf],
      let s := inSlot 7 (with1s (stream .wanted 1) [segment 8 .filling, segment 9 .complete] home)
      let s : State := { s with sls := { s.sls with nextMap := m, resetPending := reset } }
      s.sls.running = true ∧ s.sls.slot + 1 = s.slots ∧ StreamKeys s) ∧
      (mapOf.places[0]? = some none ∧
        (let m : SlotMap := { mapOf with places := List.replicate 8 (some place1) }; m.places[0]? = some (some place1))) ∧
      (let s : State := { home with sls := { home.sls with slot := 6 } };
        s.sls.running = true ∧ s.sls.slot + 2 = s.slots ∧ s.sls.inForce = none) ∧
      (let s := inSlot 6 (with1s (stream .live 1) [segment 9 .complete] home);
        s.sls.slot + 2 = s.slots ∧ StreamKeys s ∧ mapOf.places[7]? = some (some place1)) := by
  refine ⟨?_, ?_, ?_, ?_⟩ <;> decide +kernel

theorem witness_RebuiltMapFits :
    (∀ k ∈ [0, 4, 8], k ≤ home.slots) ∧
      ((with1s (stream .live 1) [] home).rpc.streams.map Stream.id).Nodup := by decide

theorem witness_ReplayResetClears :
    ∀ st ∈ [NodeState.joined, .unconfigured],
      let s := asked 70 [] (with1s { stream .draining 0 with withdrawn := true } [segment 9 .complete] (node st))
      RequestNext 70 [] [] s ∧ (s.rpc.streams.map Stream.id).Nodup ∧ s.hearing = decide (st = .joined) := by decide +kernel

/-- The node with a frame in the transmitter. -/
def sendingOf (b : OutFrame) (n : Nat) (p : TxPhase) (s : State) : State :=
  { s with rbc := { s.rbc with transmitter := some { frame := tx b, collisions := n, phase := p } } }

theorem witness_FramesAreSent :
    (∀ idle ∈ [15, 16, 31, 32],
      let u := urgentOf 1 home
      let r : State := { home with rbc := { home.rbc with routine := [tx (.ctxNone 7)] } }
      u.cfl.node = .joined ∧ u.rbc.transmitter = none ∧ u.rbc.carrier = false ∧ u.rbc.urgent.length = 1 ∧
        r.rbc.transmitter = none ∧ r.rbc.carrier = false ∧ r.rbc.urgent = [] ∧ idleNow idle r = idle ∧
        idleNow idle u = idle) ∧
      (∀ b ∈ [OutFrame.ctxNone 7, .ctxGrant 7 10 none [], .loadAdvert 10 20 0 .normal 1 false],
        ∀ p ∈ [TxPhase.sending, .backoff 3, .deferring], ∀ q ∈ [none, some (assocOf 0 0 10)],
        let r : Record := { rec .releasing .guest with held := q }
        let s := sendingOf b 0 p (with1 r home)
        s.rbc.transmitter = some { frame := tx b, collisions := 0, phase := p } ∧ s.rbc.carrier = false ∧
          findRecord 7 s = some r ∧ r.held = q ∧ (assocOf 0 0 10).client = r.client ∧ TableInv s) ∧
      findRecord 7 (sendingOf (.ctxGrant 7 10 none []) 0 .sending home) = none := by
  refine ⟨?_, ?_, ?_⟩ <;> decide +kernel

theorem witness_CollisionsDropFrames :
    (∀ n ∈ [0, 6, 7], ∀ b ∈ [OutFrame.ctxNone 7, .ctxGrant 7 10 none []], ∀ q ∈ [none, some (assocOf 0 0 10)],
      let r : Record := { rec .releasing .guest with held := q }
      let s := sendingOf b n .sending (with1 r home)
      s.rbc.transmitter = some { frame := tx b, collisions := n, phase := .sending } ∧
        TableInv s ∧ EntriesApart s ∧ findRecord 7 s = some r) ∧
      (∀ a ∈ [1, 2], ∀ n ∈ [7, 8], ∀ st ∈ [NodeState.joined, .muted],
        let s := sendingOf (.ctxPull 7 10 a) 7 .sending
          (with1e (entry .pull a .inTransmission) (with1 (rec .pulling .guest) (urgentOf n (node st))))
        s.hoe.inflight.find? (fun e => e.tag == 0) = some (entry .pull a .inTransmission) ∧ TableInv s ∧ EntriesApart s ∧
          findRecord 7 s = some (rec .pulling .guest) ∧ s.cfl.node = st ∧ s.rbc.urgent.length = n) ∧
      (let s := sendingOf (.steerOffer 7 none 0) 7 .sending
          (with1e (entry .offer 1 .inTransmission) (with1 (rec .offering .guest) home));
        s.hoe.inflight.find? (fun e => e.tag == 0) = some (entry .offer 1 .inTransmission) ∧
          findRecord 7 s = some (rec .offering .guest) ∧ TableInv s ∧ EntriesApart s) ∧
      (∀ st ∈ [RecordState.active, .offering, .steered, .pulling, .expected, .releasing],
        let s := sendingOf (.checkinClaim 7 100 30 1 0) 7 .sending (with1c (with1 (rec st .claimant) home))
        s.cku.claims.find? (fun k => k.tag == 0) = some claim ∧ findRecord 7 s = some (rec st .claimant) ∧
          TableInv s ∧ EntriesApart s) ∧
      (∀ b ∈ [OutFrame.ctxPull 7 10 1, .steerOffer 7 none 0, .checkinClaim 7 100 30 1 0, .ctxGrant 7 10 none []],
        let s := sendingOf b 7 .sending home
        (∀ e ∈ s.hoe.inflight, e.tag ≠ 0) ∧ (∀ k ∈ s.cku.claims, k.tag ≠ 0) ∧ findRecord 7 s = none) := by
  refine ⟨?_, ?_, ?_, ?_, ?_⟩ <;> decide +kernel

theorem witness_CarrierComesAndGoes :
    home.rbc.sends = false ∧ ([] : List Byte).length < 7 ∧
      (7 ≤ (List.replicate 7 (5 : Byte)).length ∧ home.rbc.receiver = true ∧
        frameGood (kindOfRun (List.replicate 7 5)) (frameOfRun (List.replicate 7 5)) = false) ∧
      (sendingOf (.ctxNone 7) 0 .sending home).rbc.sends = true ∧
      (let s : State := { home with rbc := { home.rbc with carrier := true } };
        s.rbc.receiver = true ∧ s.rbc.carrier = true ∧ s.rbc.jamReported = false) ∧
      (let s : State := { home with rbc := { home.rbc with carrier := true, ownRun := true } };
        s.rbc.sends = false ∧ s.rbc.receiver = true ∧ s.rbc.ownRun = true ∧ home.rbc.ownRun = false) ∧
      State.reset.rbc.receiver = false := by decide +kernel

/-- R165: the run of carrier that goes on after the node's own attempt has collided is no received frame; a like run after it
counts one error. -/
theorem test_own_run_is_no_frame :
    let collided := collide { frame := tx (.ctxNone 7), collisions := 7, phase := .sending } (sendingOf (.ctxNone 7) 7 .sending home)
    let heard (s : State) := receive (kindOfRun (List.replicate 7 5)) (frameOfRun (List.replicate 7 5)) s
    heard collided = carrierEnded collided ∧ (heard (heard collided)).rbc.crcErrors = 1 := by decide +kernel

theorem witness_FramesAreSettled :
    (FrameTaken 11 2 (frame 11 2 []) home ∧ FrameTaken 12 2 (frame 12 2 []) home ∧ FrameTaken 13 2 (frame 13 2 []) home) ∧
      (∀ p ∈ [[0, 10, 5], [0, 10, 0, 0, 0, 0, 100, 0, 1, 3], [0, 10, 4, 0, 0, 0, 100, 0, 1, 0, 0, 4, 0],
          [0, 10, 4, 0, 0, 0, 100, 0, 1, 0, 0, 4, 4]],
        FrameTaken 33 30 (frame 33 30 p) home ∧ (4 < fieldAt p 2 1 ∨ 2 < fieldAt p 9 1 ∨
          (fieldAt p 2 1 = 4 ∧ (fieldAt p 12 1 = 0 ∨ 3 < fieldAt p 12 1)))) ∧
      (∀ k ∈ [0, 14, 31, 38, 255], knownFrameKind (BitVec.ofNat 8 k) = false ∧ FrameTaken k 2 (frame k 2 []) home) ∧
      ((sendingOf (.ctxNone 7) 0 .sending home).rbc.sends = true ∧ State.reset.rbc.sends = false ∧
        State.reset.rbc.receiver = false ∧ home.rbc.sends = false ∧ home.rbc.receiver = true ∧ home.rbc.ownRun = false ∧
        frameGood 0 (frame 1 2 []) = false) ∧
      (let f : BusFrame := { frame 0 2 [] with dest := 4 };
        frameGood 0 { f with check := frameCheck 0 f } = true) ∧
      (∀ st ∈ [NodeState.listening, .joined, .muted], frameGood 0 (frame 0 3 []) = true ∧
        (frame 0 3 []).source.toNat = (node st).station ∧
        (∀ g ∈ (home.rbc.transmitter.map Transmitter.frame).toList ++ home.rbc.urgent ++ home.rbc.routine,
          plainFrame g.body = true)) ∧
      (let s := with1 { rec .releasing .guest with held := some (assocOf 0 0 10) } (node .muted);
        s.cfl.node = .muted ∧ TableInv s ∧ EntriesApart s) ∧
      (∀ x ∈ frameCommands 255 (frame 0 2 []), frameGood x.2.1 x.2.2 = false) ∧
      (∀ k ∈ [1, 13, 32, 34, 37], ∀ x ∈ frameCommands 255 (frame k 3 []), x.2.1 = BitVec.ofNat 8 k →
        frameGood x.2.1 x.2.2 = true ∧ x.2.2.source.toNat = home.station) ∧
      (∀ code ∈ [0, 1, 2, 3, 4], ∀ x ∈ (frameCommands 255 (updateFrame code 10 100 4 0 false))[14 + code]?,
        x.2.1 = 33 ∧ frameGood x.2.1 x.2.2 = true) := by
  refine ⟨?_, ?_, ?_, ?_, ?_, ?_, ?_, ?_, ?_, ?_⟩ <;> decide +kernel

theorem witness_FramesReadBack :
    1 ≤ conf.station ∧ conf.station ≤ 31 ∧ (tx (.ctxNone 0)).dest ≤ 31 ∧ FrameFits (.ctxNone (2 ^ 48 - 1)) ∧
      FrameFits (.loadAdvert 4095 65535 (-32768) .critical 160 true) ∧ FrameFits (.ctxGrant 7 10 none [1, 2, 3, 255]) ∧
      FrameFits (.checkinVerdict 7 100 30 .duplicate 15) := by
  simp [FrameFits, conf, tx]

/-- The bodies whose length is one off, by the kind of their record. -/
def wrongBodies : List (Nat × Nat) := [(66, 5), (66, 7), (67, 17), (67, 19), (68, 6), (69, 8), (70, 1), (72, 1)]

theorem witness_LinkMovesRecords :
    (byteSum (64 :: (beBytes 2 1 ++ [0] ++ [191])) = 0 ∧ home.rsl.inbound.length < 32 ∧
        byteSum (64 :: (beBytes 2 1 ++ [0] ++ [0])) ≠ 0) ∧
      (readAssociate [] = none ∧ RequestNext 64 [] [] (asked 64 [] home) ∧ readHeard [] = none ∧
        RequestNext 65 [] [] (asked 65 [] home)) ∧
      (∀ p ∈ wrongBodies, RequestNext p.1 (List.replicate p.2 0) [] (asked p.1 (List.replicate p.2 0) home)) ∧
      (∀ k ∈ [63, 73], RequestNext k [] [] (asked k [] home) ∧ (k < 64 ∨ 72 < k)) ∧
      (∀ b ∈ [([] : List Byte), [6], [255, 0], [0], [5, 0, 0, 0], [5, 0, 0, 0, 0, 0]],
        RequestNext 71 b [] (asked 71 b home) ∧ b.length ≠ 5) ∧
      (∀ l ∈ [Lane.message, .slot],
        let s : State := { home with rsl := { home.rsl with sending := some l } }; s.rsl.sending = some l) ∧
      (∀ n ∈ [63, 64],
        let s : State := { home with
          hoe := { home.hoe with backlog := [.dropClient 7 .moved] }
          rsl := { home.rsl with lane := List.replicate n (.streamEnded 1) } }
        s.hoe.backlog = .dropClient 7 .moved :: [] ∧ (s.rsl.lane.length < 64 ∨ 64 ≤ s.rsl.lane.length)) ∧
      ((let s : State := { home with cku := { home.cku with backlog := [.dropClient 7 .moved] } };
        s.cku.backlog = .dropClient 7 .moved :: [] ∧ s.rsl.lane.length < 64 ∧ s.hoe.backlog = []) ∧
        (let s : State := { home with rsl := { home.rsl with astBacklog := [.dropClient 7 .moved] } };
          s.rsl.astBacklog = .dropClient 7 .moved :: [] ∧ s.rsl.lane.length < 64) ∧
        (let s : State := { home with rpc := { home.rpc with endReports := [1] } };
          s.rpc.endReports = 1 :: [] ∧ s.rsl.astBacklog = [] ∧ s.rsl.lane.length < 64)) := by
  refine ⟨?_, ?_, ?_, ?_, ?_, ?_, ?_, ?_⟩ <;> decide +kernel

theorem witness_NoticesControlled :
    home.ntu.kinds.map NoticeCell.kind = NoticeKind.all ∧
      (∀ op ∈ [0, 1, 2, 3, 4, 5, 6, 255],
        let body : List Byte := beBytes 1 op ++ beBytes 4 0x1FFFF
        RequestNext 71 body [] (asked 71 body home) ∧ body.length = 5 ∧ fieldAt body 0 1 = op) ∧
      (∀ g ∈ [NoticeGroup.cell, .ticket, .replay, .links],
        let s : State := { home with ntu := { home.ntu with
          globalEnable := true
          groups := { cell := g == .cell, ticket := g == .ticket, replay := g == .replay, links := g == .links } } }
        s.ntu.globalEnable = true ∧ s.ntu.groups.get g = true ∧
          (∀ g' ∈ [NoticeGroup.cell, .ticket, .replay, .links], s.ntu.groups.get g' = true → g.code ≤ g'.code) ∧
          s.rsl.lane.length < 64 ∧ s.rpc.endReports = []) ∧
      home.ntu.globalEnable = false := by
  refine ⟨?_, ?_, ?_, ?_⟩ <;> decide +kernel

/-- For TableInvKept, SeatInvariantsKept, CapacityInvKept and HandoffInvKept. -/
theorem witness_invariants_of_home :
    TableInv home ∧ HandoffInv home ∧ HomeInv home ∧ TicketInv home ∧ CapacityInv home ∧ KeysInv home ∧ ClockInv home ∧
      (NeighbourInv home ∧ BacklogInv home) ∧
      step { home with pending := [.siteTimeTick] } = .next (home.withSck { home.sck with time := 1 }) := by
  refine ⟨⟨by decide, by decide, by decide, by decide, ?_⟩, ⟨by decide, ?_, ?_⟩, ?_, ?_, ?_, ?_, ?_,
    ⟨⟨by decide, ?_, by decide, by decide⟩, ⟨by decide, by decide, by decide, ?_⟩⟩, rfl⟩
  · intro r h; cases h
  · intro r h; cases h
  · intro r h; cases h
  · intro r h; cases h
  · intro i j a b n ha _ hn _
    have h := List.mem_iff_getElem?.mpr ⟨i, ha⟩
    simp only [home, node, List.mem_replicate] at h
    rw [h.2] at hn
    simp [Standing.ticketNumber] at hn
  · refine ⟨by decide, by decide, by decide, by decide, by decide, by decide, by decide, by decide, by decide, by decide,
      by decide, ?_, by decide⟩
    intro e h; cases h
  · refine ⟨⟨by decide, by decide, ?_⟩, by decide, by decide, ?_, by decide, ?_, by decide⟩ <;> (intro r h; cases h)
  · show (0 : Nat) ≤ _; decide
  · intro e h; cases h
  · intro r h; cases h

/-- R16, R50, R112, R184: the bounds of the neighbour table and of the result backlogs, met with each of them full. -/
theorem witness_full_backlogs :
    let x : OutRecord := .streamEnded 1
    let near (n : Nat) : Neighbour := { station := n, firstSeat := 1, seatCount := 1, pressure := 0, lastHeard := 0,
                                        ageTimer := none, declineHold := none }
    let s : State := { home with
      nbt := ((List.range 32).filter fun n => n ≠ 0 ∧ n ≠ 3).map near
      hoe := { home.hoe with inflight := [entry .pull 1 .ended], backlog := List.replicate 7 x }
      ast := { home.ast with records := [rec .pulling .guest] }
      cku := { claims := [claim], backlog := List.replicate 14 x }
      rsl := { home.rsl with astBacklog := List.replicate 319 x } }
    (s.nbt.length = 30 ∧ NeighbourInv s) ∧ BacklogInv s ∧ ¬ BacklogInv { s with hoe := { s.hoe with backlog := x :: s.hoe.backlog } } := by
  simp only [NeighbourInv, BacklogInv]
  refine ⟨?_, ?_, ?_⟩ <;> decide +kernel

end Sys2Proof.Tests
end

section
/-! The capacities of the lists (R184). -/
namespace Sys2Proof.Machine

/-- An ASSOCIATE of client 2, as a record holds it for readmission (R29). -/
def heldRequest : AssocRequest where
  client := 2
  prevStation := none
  prevSection := none
  declaredSeat := none
  heard := []

/-- A record without timers that holds an association of client 2. -/
def holdingRecord (client : Nat) (st : RecordState) : Record where
  client := client
  state := st
  cls := .home
  since := 0
  heard := []
  binding := none
  subs := []
  badCodes := 0
  peer := some 2
  timer := none
  idle := none
  held := some heldRequest
  granted := []

/-- A JOINED node that is sending client 1's CTX_GRANT. Client 1's RELEASING record holds an association that names client 2, and
client 2's EXPECTED record holds one as well: it owes nothing while it is EXPECTED, and two records as soon as it is ACTIVE. The AST's
result backlog is as full as `BacklogInv` lets it be. -/
def grantWithForeignHeld : State :=
  { State.reset with
    cfl := { State.reset.cfl with node := .joined }
    ast := { records := [holdingRecord 1 .releasing, holdingRecord 2 .expected], steerFailures := 0 }
    rbc := { State.reset.rbc with
      transmitter := some { frame := { tag := 0, dest := 2, body := .ctxGrant 1 0 none [] }, collisions := 0, phase := .sending } }
    rsl := { State.reset.rsl with astBacklog := List.replicate 318 (.streamEnded 1) }
    pending := [.frameSent] }

/-- The state in which the step of `grantWithForeignHeld` reports the frame as sent. -/
def grantLeftTransmitter : State :=
  { grantWithForeignHeld with
    rbc := { grantWithForeignHeld.rbc with transmitter := none, driven := [], idle := 0, jamReported := false }
    pending := [] }

theorem grantWithForeignHeld_tableInv : TableInv grantWithForeignHeld := by decide +kernel

theorem grantWithForeignHeld_handoffInv : HandoffInv grantWithForeignHeld := by
  refine ⟨List.nodup_nil, fun e he => absurd he List.not_mem_nil, ?_⟩
  decide +kernel

theorem grantWithForeignHeld_backlogInv : BacklogInv grantWithForeignHeld := by
  unfold BacklogInv
  decide +kernel

/-- The step ends client 1's grant and admits the association it held (R29, R63). -/
theorem step_grantWithForeignHeld :
    step grantWithForeignHeld = .next (grantEnded false 1 grantLeftTransmitter) := rfl

/-- Client 1's record, which owed two, has gone; client 2's record now owes two, and its answer FRESH_NO_CLOCK has joined the
backlog. -/
theorem grantEnded_exceeds_backlog :
    ¬ BacklogInv (grantEnded false 1 grantLeftTransmitter) := by
  unfold BacklogInv
  decide +kernel

/-- Refutes O29, in its last clause: at the end of a grant, the association that a RELEASING record holds is admitted again, and where
it names another client whose EXPECTED record holds an association too, that record owes two records from then on and is answered as
well. No premise of the statement says that only a RELEASING record holds an association, and one of its own client. -/
theorem not_capacityInvKept : ¬ Obligations.CapacityInvKept := by
  intro h
  obtain ⟨-, -, -, hkept⟩ := h _ _ step_grantWithForeignHeld
  exact grantEnded_exceeds_backlog (hkept grantWithForeignHeld_tableInv grantWithForeignHeld_handoffInv
    grantWithForeignHeld_backlogInv)

end Sys2Proof.Machine
end

section
/-! The full reset (R192) and the invariants right after it. -/
namespace Sys2Proof.Machine

/-- R190: the notice cell of every kind after a full reset. -/
theorem reset_cell (k : NoticeKind) :
    State.reset.ntu.cell k = { kind := k, pending := false, enabled := false, counter := 0 } := by
  cases k <;> rfl

/-- Settles O3: each block of `fullReset` is the one of `State.reset`, but for the lines that stay. -/
theorem fullResetClearsEveryBlock : Obligations.FullResetClearsEveryBlock := by
  intro strap s
  refine ⟨fullReset strap s, rfl, rfl, rfl, rfl, rfl, rfl, rfl, rfl, rfl, rfl, rfl, rfl, rfl, fun k => ?_, rfl, rfl⟩
  have hk : (fullReset strap s).ntu.cell k = _ := reset_cell k
  simp [hk]

theorem reset_ticketInv : TicketInv State.reset := by
  intro i j a b n hi
  simp [State.reset] at hi

theorem reset_handoffInv : HandoffInv State.reset := by
  simp [HandoffInv, State.reset]

/-- Settles O4: every list is empty after reset, so the invariants say nothing but of the notice cells, the bounds and the receiver. -/
theorem invariantsAtReset : Obligations.InvariantsAtReset := by
  refine ⟨by decide, fun r hr => absurd hr List.not_mem_nil, reset_ticketInv, reset_handoffInv, ?_⟩
  simp only [CapacityInv, BacklogInv, NeighbourInv, KeysInv, ClockInv]
  decide

end Sys2Proof.Machine
end

section
/-! The pressure (R2, R3), the monitor (R7), the restore hold (R8) and the adverts (R10 to R14). -/
namespace Sys2Proof.Machine

/-! ## The computation -/

/-- R2, R3: the pressure is the load less 1600, and 2047 where that would be more; a load is never below 0. -/
theorem pressureOf_eq (c : NodeConfig) (n r : Nat) :
    pressureOf c n r =
      (let load := (c.clientWeight * (n * 1600 / c.capacity) + (16 - c.clientWeight) * (r * 1600 / c.slots)) / 16
       if 3647 < load then (2047 : Int) else (load : Int) - 1600) := by
  simp only [pressureOf, saturate, loadOf, clientShare, airtimeShare]
  generalize (c.clientWeight * (n * 1600 / c.capacity) + (16 - c.clientWeight) * (r * 1600 / c.slots)) / 16 = load
  split <;> omega

/-- R7: a NORMAL monitor rises to the highest limit that the pressure reaches. -/
theorem evaluate_normal (c : NodeConfig) (p : Int) :
    (c.critical ≤ p → Monitor.evaluate c p .normal = .critical) ∧
      (c.high ≤ p → p < c.critical → Monitor.evaluate c p .normal = .high) ∧
      (p < c.high → p < c.critical → Monitor.evaluate c p .normal = .normal) := by
  grind [Monitor.evaluate]

/-- R7: a HIGH monitor. -/
theorem evaluate_high (c : NodeConfig) (p : Int) :
    (c.critical ≤ p → Monitor.evaluate c p .high = .critical) ∧
      (p < c.low → p < c.critical → Monitor.evaluate c p .high = .normal) ∧
      (c.low ≤ p → p < c.critical → Monitor.evaluate c p .high = .high) := by
  grind [Monitor.evaluate]

/-- R7: a CRITICAL monitor. -/
theorem evaluate_critical (c : NodeConfig) (p : Int) :
    (p < c.low → Monitor.evaluate c p .critical = .normal) ∧
      (c.low ≤ p → p < c.high → Monitor.evaluate c p .critical = .high) ∧
      (c.low ≤ p → c.high ≤ p → Monitor.evaluate c p .critical = .critical) := by
  grind [Monitor.evaluate]

/-- R7: the notice of a monitor state, by its name. -/
theorem Monitor.notice_eq (m : Monitor) :
    m.notice = match m with
      | .high => .pressureHigh | .critical => .pressureCritical | .normal => .pressureNormal := by
  cases m <;> rfl

/-- What a recompute touches: the PRM, the notices and the RBC. -/
theorem recompute_frame (s : State) :
    recompute s = ((s.withPrm (recompute s).prm).withNtu (recompute s).ntu).withRbc (recompute s).rbc := by
  have hcfl := recompute_cfl s
  have hnbt := recompute_nbt s
  have hast := recompute_ast s
  have hhoe := recompute_hoe s
  have hens := recompute_ens s
  have hcku := recompute_cku s
  have hrpc := recompute_rpc s
  have hsls := recompute_sls s
  have hsck := recompute_sck s
  have hrsl := recompute_rsl s
  have hfree := recompute_free s
  have hpending := recompute_pending s
  generalize recompute s = u at *
  cases u
  simp_all [State.withPrm, State.withNtu, State.withRbc]

/-- Settles O13: the pressure and the monitor by `recompute_prm`, row by row, the notice by `recompute_ntu`. -/
theorem recomputeGivesPressure : Obligations.RecomputeGivesPressure := by
  intro c s t hc ht
  subst ht
  obtain ⟨hp, hm, hh, ha⟩ := recompute_prm c s hc
  have hn := recompute_ntu c s hc
  have hpe : pressureOf c s.clients s.assigned = _ := pressureOf_eq c s.clients s.assigned
  dsimp only
  rw [State.clients] at hpe
  rw [← hpe]
  refine ⟨hp, fun h => ?_, fun h => ?_, fun h => ?_, fun h => ?_, fun h => ?_, recompute_frame s, ha,
    recompute_rbc_frame s⟩
  · rw [hm, h]; exact evaluate_normal c _
  · rw [hm, h]; exact evaluate_high c _
  · rw [hm, h]; exact evaluate_critical c _
  · rw [hn, hh, ← hm, if_pos h.symm, restoreHoldAfter, if_pos h.symm]
    exact ⟨rfl, rfl⟩
  · rw [hn, hh, ← hm, if_neg (Ne.symm h), restoreHoldAfter, if_neg (Ne.symm h), Monitor.notice_eq]
    exact ⟨rfl, rfl⟩

/-! ## The change trigger (R12) -/

/-- R4: the state in which a recompute has evaluated the monitor, and has not yet asked for an advert. -/
def evaluated (c : NodeConfig) (s : State) : State :=
  let m := s.prm.monitor.evaluate c (pressureOf c s.clients s.assigned)
  (s.withPrm { s.prm with
    pressure := pressureOf c s.clients s.assigned, monitor := m,
    restoreHold := restoreHoldAfter s.prm.monitor m s.prm.restoreHold }).withNtu
      (if s.prm.monitor = m then s.ntu else s.ntu.occur m.notice)

/-- R4, R12: a recompute is the evaluation, and then what the change trigger asks for. -/
theorem recompute_evaluated {c : NodeConfig} {s : State} (hc : s.cfl.config = some c) :
    recompute s =
      if changeTrigger (decide (s.prm.monitor ≠ (evaluated c s).prm.monitor)) (evaluated c s).prm then
        triggerAdvert (evaluated c s)
      else evaluated c s := by
  unfold recompute evaluated
  simp only [hc]
  by_cases hm : s.prm.monitor = s.prm.monitor.evaluate c (pressureOf c s.clients s.assigned)
  · simp [← hm]
    rfl
  · simp [hm, raise]

/-- The evaluation as the recompute's own results spell it. -/
theorem evaluated_eq {c : NodeConfig} {s : State} (hc : s.cfl.config = some c) :
    evaluated c s = (s.withPrm { s.prm with
      pressure := (recompute s).prm.pressure, monitor := (recompute s).prm.monitor,
      restoreHold := (recompute s).prm.restoreHold }).withNtu (recompute s).ntu := by
  obtain ⟨hp, hm, hh, -⟩ := recompute_prm c s hc
  rw [recompute_ntu c s hc, hp, hh, hm, evaluated]

/-- R12: the three conditions of the trigger. -/
theorem changeTrigger_iff (m : Monitor) (p : Prm) :
    changeTrigger (decide (m ≠ p.monitor)) p = true ↔ ∃ a, p.lastAdvert = some a ∧
      (64 ≤ (p.pressure - a.pressure).natAbs ∨ p.monitor ≠ m ∨ p.monitor ≠ a.monitor) := by
  unfold changeTrigger
  cases p.lastAdvert with
  | none => simp
  | some a => simp [or_assoc, ne_comm (a := m)]

/-- R12: while the hold-off timer runs, the trigger is held. -/
theorem triggerAdvert_holdOff_running {s : State} (h : s.prm.holdOff.isSome) :
    triggerAdvert s = s.withPrm { s.prm with heldTrigger := true } := by
  simp [triggerAdvert, Option.isSome_iff_ne_none.1 h]

/-- R12: with the hold-off timer stopped, the trigger queues an advert. -/
theorem triggerAdvert_holdOff_stopped {s : State} (h : s.prm.holdOff = none) : triggerAdvert s = queueAdvert s := by
  simp [triggerAdvert, h]

/-- Settles O14: a recompute is the evaluation and, where one of R12's conditions holds, the trigger. -/
theorem changeTriggerQueuesAdvert : Obligations.ChangeTriggerQueuesAdvert := by
  intro c s t hc ht
  subst ht
  dsimp only
  obtain ⟨hp, hm, -, -⟩ := recompute_prm c s hc
  have hiff := changeTrigger_iff s.prm.monitor (evaluated c s).prm
  have heq := recompute_evaluated hc
  rw [← evaluated_eq hc, hp, hm]
  refine ⟨fun h => ?_, fun h ho => ?_, fun h ho hj => ?_, fun h ho hj => ?_⟩
  · exact heq.trans (if_neg (mt hiff.1 h))
  · exact (heq.trans (if_pos (hiff.2 h))).trans (triggerAdvert_holdOff_running ho)
  · exact ((heq.trans (if_pos (hiff.2 h))).trans (triggerAdvert_holdOff_stopped ho)).trans (queueAdvert_joined hc hj)
  · exact ((heq.trans (if_pos (hiff.2 h))).trans (triggerAdvert_holdOff_stopped ho)).trans (queueAdvert_not_joined hj)

/-! ## The timers (R11, R13) -/

/-- R10: an advert that the RBC accepts clears the held trigger. -/
theorem advertQueued_heldTrigger {c : NodeConfig} {s : State} (h : (routineWithAdvert c s).isSome) :
    (advertQueued c s).prm.heldTrigger = false := by
  obtain ⟨q, hq⟩ := Option.isSome_iff_exists.1 h
  simp [advertQueued, hq]

/-- R66: the start of an offer leaves the PRM as it was. -/
theorem startOffer_prm (r : Record) (target : Nat) (s : State) : (startOffer r target s).prm = s.prm := by
  unfold startOffer
  dsimp only
  split <;> simp [addInflight, offerEnds]

/-- R64 to R66: an evaluation of steering leaves the PRM as it was. -/
theorem steerEvaluate_prm (s : State) : (steerEvaluate s).prm = s.prm := by
  unfold steerEvaluate
  repeat' split
  all_goals simp [startOffer_prm]

/-- R64: a NORMAL node does not steer. -/
theorem steerEvaluate_normal {s : State} (h : s.prm.monitor = .normal) : steerEvaluate s = s := by
  unfold steerEvaluate
  cases s.cfl.config <;> simp [steerAllowed, h]

/-- Settles O15: each timer's command is the advert that `queueAdvert_joined` spells out. -/
theorem holdOffExpiryActsOnTrigger : Obligations.HoldOffExpiryActsOnTrigger := by
  intro c d s hc hj
  refine ⟨fun ho ht => ?_, fun ho ht => ?_, fun ha hr => ?_⟩
  · have hq := queueAdvert_joined (s := s.withPrm { s.prm with holdOff := none }) hc hj
    rw [← hq]
    simp [exec, execHoldOffTimerExpiry, ho, ht]
  · simp [exec, execHoldOffTimerExpiry, ho, ht]
  · have hq := queueAdvert_joined (s := s.withPrm { s.prm with advertTimer := some 2000 }) hc hj
    refine ⟨steerEvaluate (advertQueued c (s.withPrm { s.prm with advertTimer := some 2000 })), ?_, ?_, fun hn => ?_⟩
    · simp [exec, execAdvertTimerExpiry, ha, advertMs, hq]
    · rw [steerEvaluate_prm]
      exact advertQueued_heldTrigger hr
    · refine steerEvaluate_normal ?_
      rw [← hq, (queueAdvert_prm _).2.1]
      exact hn

/-! ## The entry to JOINED (R199) -/

/-- Settles O8: the ROUTINE queue takes the RESYNC_REQUEST first, and then the advert, of which it holds none. -/
theorem listenTimerEntersJoined : Obligations.ListenTimerEntersJoined := by
  intro c d s hc hn ht hr
  let joined := s.withCfl { s.cfl with node := .joined, listenTimer := none }
  have hreq : queueFrame 0 (.resyncRequest c.firstSeat c.seatCount) joined =
      routineSent 0 (.resyncRequest c.firstSeat c.seatCount) joined := by
    rw [queueFrame_routine_eq _ _ _ rfl rfl]
    simp [routineOffered, joined, hr]
  have hq := queueAdvert_joined (c := c) (s := routineSent 0 (.resyncRequest c.firstSeat c.seatCount) joined) hc rfl
  have henter : exec .listenTimerExpiry s = .next (enterJoined c s) := by
    simp [exec, execListenTimerExpiry, hc, hn, ht]
  rw [henter, enterJoined, show s.withCfl _ = joined from rfl, hreq, hq]
  simp [joined, routineSent, advertQueued, routineWithAdvert, hr, OutFrame.isAdvert, advertNow, advertMs]

end Sys2Proof.Machine
end

section
/-! The neighbour table (R16 to R21). -/
namespace Sys2Proof.Machine

/-! ## The choice of one entry (R20, R21) -/

/-- Of two entries, the first unless the second is better. -/
def keepBetter {α : Type} (better : α → α → Bool) (acc : Option α) (e : α) : Option α :=
  match acc with
  | none => some e
  | some a => if better a e then some a else some e

/-- The entry that stays when the entries of a list are held against each other one by one. -/
def pickBest {α : Type} (better : α → α → Bool) (l : List α) : Option α := l.foldl (keepBetter better) none

/-- R20: the question of the owner is such a choice. -/
theorem ownerOf_eq (q : Nat) (s : State) :
    ownerOf q s = (pickBest betterOwner (s.nbt.filter fun e => e.covers q)).map Neighbour.station := by
  unfold ownerOf pickBest
  congr 2
  funext acc e
  cases acc <;> rfl

/-- R21: and so is that of the least pressure. -/
theorem leastPressure_eq (l : List Nat) (exclude : Bool) (bound : Option Int) (s : State) :
    leastPressure l exclude bound s =
      (pickBest lighter (s.nbt.filter fun e => e.considered l exclude bound)).map Neighbour.station := by
  unfold leastPressure pickBest
  congr 2
  funext acc e
  cases acc <;> rfl

theorem pickBest_append {α : Type} (better : α → α → Bool) (l : List α) (e : α) :
    pickBest better (l ++ [e]) = keepBetter better (pickBest better l) e :=
  List.foldl_append

/-- A total and transitive order: of any list with an entry, the one that stays is as good as every other. -/
theorem pickBest_best {α : Type} {better : α → α → Bool}
    (total : ∀ a b, better a b = true ∨ better b a = true)
    (trans : ∀ a b c, better a b = true → better b c = true → better a c = true)
    (l : List α) (h : l ≠ []) :
    ∃ a ∈ l, pickBest better l = some a ∧ ∀ x ∈ l, better a x = true := by
  induction l using List.reverseRecOn with
  | nil => exact absurd rfl h
  | append_singleton l e ih =>
    rw [pickBest_append]
    have hself : better e e = true := by simpa using total e e
    by_cases hl : l = []
    · subst hl
      exact ⟨e, by simp, rfl, by simpa using hself⟩
    · obtain ⟨a, ha, hpick, hbest⟩ := ih hl
      rw [hpick]
      by_cases hae : better a e = true
      · refine ⟨a, by simp [ha], by simp [keepBetter, hae], ?_⟩
        simpa [or_imp, forall_and, hae] using hbest
      · have hea : better e a = true := (total a e).resolve_left hae
        refine ⟨e, by simp, by simp [keepBetter, hae], ?_⟩
        simpa [or_imp, forall_and, hself] using fun x hx => trans e a x hea (hbest x hx)

theorem pickBest_nil {α : Type} (better : α → α → Bool) : pickBest better [] = none := rfl

theorem betterOwner_iff (a b : Neighbour) :
    betterOwner a b = true ↔ b.lastHeard < a.lastHeard ∨ (a.lastHeard = b.lastHeard ∧ a.station ≤ b.station) := by
  simp [betterOwner]

theorem lighter_iff (a b : Neighbour) :
    lighter a b = true ↔ a.pressure < b.pressure ∨ (a.pressure = b.pressure ∧ a.station ≤ b.station) := by
  simp [lighter]

theorem betterOwner_total (a b : Neighbour) : betterOwner a b = true ∨ betterOwner b a = true := by
  simp only [betterOwner_iff]; omega

theorem betterOwner_trans (a b c : Neighbour) (h1 : betterOwner a b = true) (h2 : betterOwner b c = true) :
    betterOwner a c = true := by
  simp only [betterOwner_iff] at *; omega

theorem lighter_total (a b : Neighbour) : lighter a b = true ∨ lighter b a = true := by
  simp only [lighter_iff]; omega

theorem lighter_trans (a b c : Neighbour) (h1 : lighter a b = true) (h2 : lighter b c = true) :
    lighter a c = true := by
  simp only [lighter_iff] at *; omega

/-- Two owners, each at least as good as the other, have one address. -/
theorem betterOwner_antisymm {a b : Neighbour} (h1 : betterOwner a b = true) (h2 : betterOwner b a = true) :
    a.station = b.station := by
  simp only [betterOwner_iff] at *; omega

theorem lighter_antisymm {a b : Neighbour} (h1 : lighter a b = true) (h2 : lighter b a = true) :
    a.station = b.station := by
  simp only [lighter_iff] at *; omega

/-- R20: what it is for an entry to contain the seat. -/
theorem covers_iff (q : Nat) (e : Neighbour) :
    e.covers q = true ↔ e.firstSeat ≤ q ∧ q < e.firstSeat + e.seatCount := by
  simp [Neighbour.covers]

/-- R21: what keeps an entry in consideration. -/
theorem considered_iff (l : List Nat) (exclude : Bool) (bound : Option Int) (e : Neighbour) :
    e.considered l exclude bound = true ↔
      e.station ∈ l ∧ (exclude = true → e.declineHold = none) ∧ ∀ b, bound = some b → e.pressure ≤ b := by
  cases bound <;> cases exclude <;> simp [Neighbour.considered, and_assoc]

/-- The station picked from the entries that pass a test is that of any entry that is as good as all of them. -/
theorem pickBest_station {better : Neighbour → Neighbour → Bool} {test : Neighbour → Bool} {l : List Neighbour}
    {e : Neighbour}
    (total : ∀ a b, better a b = true ∨ better b a = true)
    (trans : ∀ a b c, better a b = true → better b c = true → better a c = true)
    (antisymm : ∀ a b, better a b = true → better b a = true → a.station = b.station)
    (he : e ∈ l) (ht : test e = true) (hbest : ∀ x ∈ l, test x = true → better e x = true) :
    (pickBest better (l.filter test)).map Neighbour.station = some e.station := by
  have hmem : e ∈ l.filter test := List.mem_filter.2 ⟨he, ht⟩
  obtain ⟨a, ha, hpick, habest⟩ := pickBest_best total trans _ (List.ne_nil_of_mem hmem)
  obtain ⟨hal, hat⟩ := List.mem_filter.1 ha
  rw [hpick, Option.map_some, antisymm a e (habest e hmem) (hbest a hal hat)]

/-- No station is picked where no entry passes the test. -/
theorem pickBest_none {better : Neighbour → Neighbour → Bool} {test : Neighbour → Bool} {l : List Neighbour}
    (h : ∀ x ∈ l, ¬ test x = true) : (pickBest better (l.filter test)).map Neighbour.station = none := by
  rw [List.filter_eq_nil_iff.2 h, pickBest_nil, Option.map_none]

/-- Settles O17: each question is the choice of one entry, of the filtered table, under its own order. -/
theorem neighbourQuestionsAnswered : Obligations.NeighbourQuestionsAnswered := by
  intro q l exclude bound e s
  dsimp only
  rw [ownerOf_eq, leastPressure_eq]
  refine ⟨fun h => pickBest_none fun x hx => mt (covers_iff q x).1 (h x hx), fun he hc hb => ?_,
    fun h => pickBest_none fun x hx => mt (considered_iff l exclude bound x).1 (h x hx), fun he hr hb => ?_⟩
  · refine pickBest_station betterOwner_total betterOwner_trans (fun _ _ => betterOwner_antisymm) he
      ((covers_iff q e).2 hc) fun x hx hxc => (betterOwner_iff e x).2 ?_
    exact (hb x hx ((covers_iff q x).1 hxc)).imp_right fun ⟨ht, hs⟩ => ⟨ht.symm, hs⟩
  · exact pickBest_station lighter_total lighter_trans (fun _ _ => lighter_antisymm) he
      ((considered_iff l exclude bound e).2 hr) fun x hx hxr =>
        (lighter_iff e x).2 (hb x hx ((considered_iff l exclude bound x).1 hxr))

/-! ## The entries (R17 to R19) -/

/-- R17: the entry that a LOAD_ADVERT leaves, with a decline hold. -/
def neighbourHeard (source : Nat) (a : AdvertPayload) (now : Nat) (hold : Timer) : Neighbour where
  station := source
  firstSeat := a.firstSeat
  seatCount := a.seatCount
  pressure := a.pressure
  lastHeard := now
  ageTimer := some 6000
  declineHold := hold

theorem findNeighbour_isSome (source : Nat) (s : State) :
    (findNeighbour source s).isSome = true ↔ ∃ e ∈ s.nbt, e.station = source := by
  simp [findNeighbour, List.find?_isSome]

/-- R17: a station that has an entry keeps it, with its decline hold. -/
theorem takeAdvert_known {source : Nat} {a : AdvertPayload} {s : State} (h : ∃ e ∈ s.nbt, e.station = source) :
    takeAdvert source a s = s.withNbt (s.nbt.map fun e =>
      if e.station = source then neighbourHeard source a s.sck.time e.declineHold else e) := by
  rw [takeAdvert, if_pos ((findNeighbour_isSome source s).2 h)]
  congr 1
  refine List.map_congr_left fun e _ => ?_
  split
  · next he => simp [neighbourHeard, he, ageMs]
  · rfl

/-- R17: a station that has none gets one. -/
theorem takeAdvert_new {source : Nat} {a : AdvertPayload} {s : State} (h : ∀ e ∈ s.nbt, e.station ≠ source) :
    takeAdvert source a s = s.withNbt (s.nbt ++ [neighbourHeard source a s.sck.time none]) := by
  have hn : ¬ (findNeighbour source s).isSome = true := by
    rw [findNeighbour_isSome]
    rintro ⟨e, he, hs⟩
    exact h e he hs
  rw [takeAdvert, if_neg hn]
  rfl

/-- R17, R201: a LOAD_ADVERT that is taken reaches the NBT where its payload fits. -/
theorem exec_loadAdvert {source : Nat} {f : BusFrame} {s : State} (h : FrameTaken 1 source f s) :
    exec (.loadAdvert f) s = .next (match readAdvert f.payload with
      | some a => takeAdvert source a (carrierEnded s)
      | none => carrierEnded s) :=
  congrArg Host.Outcome.next (receive_taken h)

/-- R18: the age timer's expiry of an entry. -/
theorem exec_ageTimerExpiry {station d : Nat} {e : Neighbour} {s : State} (he : e ∈ s.nbt) (hs : e.station = station)
    (ha : e.ageTimer = some d) (hn : (s.nbt.map Neighbour.station).Nodup) :
    exec (.ageTimerExpiry station) s =
      .next (raise .neighbourLost (s.withNbt (s.nbt.filter fun x => x.station ≠ station))) := by
  have hfind : findNeighbour station s = some e := by
    obtain ⟨x, hx⟩ := Option.isSome_iff_exists.1 ((findNeighbour_isSome station s).2 ⟨e, he, hs⟩)
    have hxm := List.mem_of_find?_eq_some hx
    have hxs : x.station = station := by simpa using List.find?_some hx
    rw [hx, List.inj_on_of_nodup_map hn hxm he (hxs.trans hs.symm)]
  simp [exec, execAgeTimerExpiry, hfind, ha]

/-- Settles O18. The later advert finds no entry of the station, since the expiry has taken it. -/
theorem ageExpiryRemovesNeighbour : Obligations.AgeExpiryRemovesNeighbour := by
  intro station d e s he hs ha hn
  refine ⟨_, exec_ageTimerExpiry he hs ha hn, rfl, fun f a hf hr => ?_⟩
  have hft : FrameTaken 1 station f
      (raise .neighbourLost (s.withNbt (s.nbt.filter fun x => x.station ≠ station))) := hf
  rw [exec_loadAdvert hft, hr]
  exact congrArg _ (takeAdvert_new fun x hx => by simpa using (List.mem_filter.1 hx).2)

/-- Settles O19, by the three cases of a LOAD_ADVERT. -/
theorem loadAdvertKeepsNeighbours : Obligations.LoadAdvertKeepsNeighbours := by
  intro source f a s hf
  refine ⟨fun hr => ?_, fun hr he => ?_, fun hr he => ?_, rfl⟩
  · rw [exec_loadAdvert hf, hr]
  · rw [exec_loadAdvert hf, hr]
    exact congrArg _ (takeAdvert_known he)
  · rw [exec_loadAdvert hf, hr]
    exact congrArg _ (takeAdvert_new he)

end Sys2Proof.Machine
end

section
/-! Steering at the target (R71, R72) and the replies to an offer (R67, R68, R70). -/
namespace Sys2Proof.Machine

/-! ## The target (R71, R72) -/

/-- R71: the checks of an offer about a client without a record: the table, the monitor, the pressure with one client more, and the
guest places, of which a bound client needs none. -/
def offerOverloads (c : NodeConfig) (client : Nat) (seat : Option Nat) (s : State) : Prop :=
  160 ≤ s.ast.records.length ∨ s.prm.monitor ≠ .normal ∨ c.high ≤ hypothetical c s ∨
    (offeredBinding client seat s = none ∧ c.capacity ≤ s.guests)

theorem offerCheck_already {c : NodeConfig} {client : Nat} {seat : Option Nat} {s : State}
    (h : (findRecord client s).isSome) : offerCheck c client seat s = some .already := by
  simp [offerCheck, h]

theorem offerCheck_load {c : NodeConfig} {client : Nat} {seat : Option Nat} {s : State}
    (h : findRecord client s = none) (hl : offerOverloads c client seat s) : offerCheck c client seat s = some .load := by
  simp only [offerCheck, h, State.clients, tableLimit, Option.isNone_iff_eq_none, Option.isSome_none, Bool.false_eq_true,
    if_false]
  split_ifs with ht hm hp hg
  iterate 4 rfl
  exact absurd hl (by simp only [offerOverloads, not_or]; exact ⟨ht, hm, hp, hg⟩)

theorem offerCheck_passes {c : NodeConfig} {client : Nat} {seat : Option Nat} {s : State}
    (h : findRecord client s = none) (hl : ¬ offerOverloads c client seat s) : offerCheck c client seat s = none := by
  simp only [offerOverloads, not_or] at hl
  obtain ⟨ht, hm, hp, hg⟩ := hl
  simp [offerCheck, h, State.clients, tableLimit, ht, hm, hp, hg]

/-- R71: a JOINED node declines an offer by the first check that fails. -/
theorem takeOffer_declines {source client : Nat} {seat : Option Nat} {c : NodeConfig} {s : State} {reason : DeclineReason}
    (hc : s.cfl.config = some c) (hj : s.cfl.node = .joined) (h : offerCheck c client seat s = some reason) :
    takeOffer source client seat s = urgentOffered source (.steerDecline client reason) s := by
  simp only [takeOffer, hc, hj, if_true, h]
  exact queueFrame_urgent_eq _ _ _ rfl

/-- R72: an offer that passes every check reserves the place and is accepted. -/
theorem takeOffer_accepts {source client : Nat} {seat : Option Nat} {c : NodeConfig} {s : State}
    (hc : s.cfl.config = some c) (hj : s.cfl.node = .joined) (h : offerCheck c client seat s = none) :
    takeOffer source client seat s = urgentOffered source (.steerAccept client)
      (addRecord (expectedRecord source client seat s) s) := by
  simp only [takeOffer, hc, hj, if_true, h]
  exact queueFrame_urgent_eq _ _ _ rfl

theorem takeOffer_not_joined {source client : Nat} {seat : Option Nat} {s : State} (hj : s.cfl.node ≠ .joined) :
    takeOffer source client seat s = s := by
  unfold takeOffer
  cases s.cfl.config <;> simp [hj]

theorem exec_steerOffer {source client : Nat} {seat : Option Nat} {f : BusFrame} {s : State} (h : FrameTaken 6 source f s)
    (hr : readOffer f.payload = some (client, seat)) :
    exec (.steerOffer f) s = .next (takeOffer source client seat (carrierEnded s)) := by
  have hroute : route 6#8 source f.dest.toNat f.payload (carrierEnded s) = takeOffer source client seat (carrierEnded s) := by
    simp [route, hr]
  exact congrArg Host.Outcome.next ((receive_taken h).trans hroute)

/-- Settles O35, by the outcomes of `offerCheck`. -/
theorem offerDecided : Obligations.OfferDecided := by
  intro source client seat c f s hf hr hc
  have hexec := exec_steerOffer hf hr
  intro u bound load more loaded
  have hcu : u.cfl.config = some c := hc
  have hbound : offeredBinding client seat u = bound := rfl
  have hmore : hypothetical c u = more := pressureOf_eq c _ _
  have hload : loaded ↔ offerOverloads c client seat u := by
    rw [offerOverloads, hmore, hbound]
    rfl
  refine ⟨fun hj => ?_, fun hj => ⟨fun hk => ?_, fun hk hl => ?_, fun hk hl => ?_⟩⟩
  · exact hexec.trans (congrArg _ (takeOffer_not_joined hj))
  · exact hexec.trans (congrArg _ (takeOffer_declines hcu hj (offerCheck_already hk)))
  · exact hexec.trans (congrArg _ (takeOffer_declines hcu hj (offerCheck_load hk (hload.1 hl))))
  · exact hexec.trans (congrArg _ (takeOffer_accepts hcu hj (offerCheck_passes hk (mt hload.2 hl))))

/-! ## The replies (R67, R68, R70) -/

/-- R54: a reply matches an entry of its kind and station. -/
theorem matching_isSome {kind : InflightKind} {source client : Nat} {e : Inflight} {s : State}
    (h : EntryMatches kind source client e s) : (matching kind source client s).isSome = true := by
  obtain ⟨he, hk, hp⟩ := h
  simp [matching, he, hk, hp]

theorem matching_none {kind : InflightKind} {source client : Nat} {s : State}
    (h : ∀ e, ¬ EntryMatches kind source client e s) : (matching kind source client s).isSome = false := by
  cases he : findInflight client s with
  | none => simp [matching, he]
  | some e => simpa [matching, he] using fun hk hp => h e ⟨he, hk, hp⟩

theorem takesReplies_iff (s : State) : takesReplies s = true ↔ s.cfl.node = .joined ∨ s.cfl.node = .muted := by
  simp [takesReplies]

/-- R54, R55: a STEER_ACCEPT that is ignored. -/
theorem takeAccept_ignored {source client : Nat} {s : State} (h : ReplyIgnored .offer source client s) :
    takeAccept source client s = s := by
  refine if_neg fun hb => ?_
  obtain ⟨ht, hm⟩ := Bool.and_eq_true_iff.1 hb
  rcases h with ⟨hj, hmu⟩ | hno
  · exact ((takesReplies_iff s).1 ht).elim hj hmu
  · simp [matching_none hno] at hm

/-- R67: a STEER_ACCEPT that matches. -/
theorem takeAccept_matches {source client : Nat} {e : Inflight} {r : Record} {s : State}
    (hn : (s.ast.records.map Record.client).Nodup) (ht : takesReplies s = true)
    (he : EntryMatches .offer source client e s) (hr : findRecord client s = some r) :
    takeAccept source client s = hoePlace (.steerDirective client source)
      (recordBecomes client { r with state := .steered, timer := some .steer } (inflightGone client s)) := by
  obtain ⟨-, rfl⟩ := findRecord_mem hr
  rw [takeAccept, if_pos (by simp [ht, matching_isSome he]), dropInflight_eq]
  exact congrArg (hoePlace _) (updateRecord_eq (s := inflightGone r.client s) hr hn _)

/-- R68: an OFFERING record returns to ACTIVE. -/
theorem offerEnds_eq {client : Nat} {r : Record} {s : State} (hn : (s.ast.records.map Record.client).Nodup)
    (hr : findRecord client s = some r) :
    offerEnds client s = recordBecomes client { r with state := .active, peer := none } (inflightGone client s) := by
  obtain ⟨-, rfl⟩ := findRecord_mem hr
  rw [offerEnds, dropInflight_eq]
  exact updateRecord_eq (s := inflightGone r.client s) hr hn _

/-- R68: a STEER_DECLINE that takes effect sets the decline hold, whether or not it matches. -/
theorem takeDecline_taken {source client : Nat} {s : State} (ht : takesReplies s = true) :
    takeDecline source client s =
      if (matching .offer source client s).isSome then offerEnds client (setDeclineHold source s)
      else setDeclineHold source s :=
  if_pos ht

theorem takeDecline_ignored {source client : Nat} {s : State} (ht : takesReplies s = false) :
    takeDecline source client s = s := by
  simp [takeDecline, ht]

theorem exec_steerAccept {source client : Nat} {f : BusFrame} {s : State} (h : FrameTaken 7 source f s)
    (hr : readClient f.payload = some client) :
    exec (.steerAccept f) s = .next (takeAccept source client (carrierEnded s)) := by
  have hroute : route 7#8 source f.dest.toNat f.payload (carrierEnded s) = takeAccept source client (carrierEnded s) := by
    simp [route, hr]
  exact congrArg Host.Outcome.next ((receive_taken h).trans hroute)

theorem exec_steerDecline {source : Nat} {f : BusFrame} {s : State} (h : FrameTaken 8 source f s) :
    exec (.steerDecline f) s = .next (match readDecline f.payload with
      | some client => takeDecline source client (carrierEnded s)
      | none => carrierEnded s) :=
  congrArg Host.Outcome.next (receive_taken h)

/-- R70, R45: the steer hold's expiry. -/
theorem exec_steerHoldExpiry {client : Nat} {r : Record} {s : State} (hn : (s.ast.records.map Record.client).Nodup)
    (hr : findRecord client s = some r) (ht : r.timer = some .steer) :
    exec (.steerHoldExpiry client) s = .next
      (recordBecomes client { r with state := .active, peer := none, timer := none }
        (s.withAst { s.ast with steerFailures := min 65535 (s.ast.steerFailures + 1) })) := by
  obtain ⟨-, rfl⟩ := findRecord_mem hr
  have hbecomes := updateRecord_eq hr hn fun r => { r with state := .active, peer := none, timer := none }
  simp only [exec, execSteerHoldExpiry, hr, ht, if_true, hbecomes]
  rfl

/-- Settles O36, reply by reply. -/
theorem steerRepliesTaken : Obligations.SteerRepliesTaken := by
  intro source client e r f s hn u held
  refine ⟨fun hf hr hi => ?_, fun hf hr hj hno => ?_, fun hf hj hm => ?_,
    fun hj he hrec => ⟨fun hf hr => ?_, fun hf hr => ?_⟩, exec_steerHoldExpiry hn⟩
  · exact (exec_steerAccept hf hr).trans (congrArg _ (takeAccept_ignored hi))
  · have ht : takesReplies u = true := (takesReplies_iff u).2 hj
    have hmatch : (matching .offer source client u).isSome = false := matching_none hno
    rw [exec_steerDecline hf, hr]
    exact congrArg _ ((takeDecline_taken ht).trans (by simp [hmatch]; rfl))
  · have ht : takesReplies u = false := by
      rw [← Bool.not_eq_true, takesReplies_iff]
      exact not_or.2 ⟨hj, hm⟩
    rw [exec_steerDecline hf]
    cases hr : readDecline f.payload with
    | none => rfl
    | some client => exact congrArg _ (takeDecline_ignored ht)
  · have ht : takesReplies u = true := (takesReplies_iff u).2 hj
    exact (exec_steerAccept hf hr).trans (congrArg _ (takeAccept_matches hn ht he hrec))
  · have ht : takesReplies u = true := (takesReplies_iff u).2 hj
    have hmatch : (matching .offer source client u).isSome = true := matching_isSome he
    rw [exec_steerDecline hf, hr]
    exact congrArg _ (((takeDecline_taken ht).trans (if_pos hmatch)).trans (offerEnds_eq hn hrec))

end Sys2Proof.Machine
end

section
/-! The handling of a slot (R144 to R149). -/
namespace Sys2Proof.Machine

/-! ## The stream of a slot's place (R145) -/

theorem findStream_mem {id : Nat} {s : State} {st : Stream} (h : findStream id s = some st) :
    st ∈ s.rpc.streams ∧ st.id = id :=
  ⟨List.mem_of_find?_eq_some h, by simpa using List.find?_some h⟩

/-- A change of the place's stream, once its SLOT_OUT record has been placed, over the cache `l`. -/
theorem updateStream_placed {p : Place} {st : Stream} {v : State} (out : SlotOut) (f : Stream → Stream)
    (l : List SegmentRecord) (hn : (v.rpc.streams.map Stream.id).Nodup) (hst : findStream p.stream v = some st) :
    updateStream p.stream f (placeOnSlotLane out (v.withRpc { v.rpc with cache := l })) = slotFilled p out (f st) l v := by
  have hmap : (v.rpc.streams.map fun y => if y.id = p.stream then f y else y) =
      v.rpc.streams.map fun y => if y.id = p.stream then f st else y := by
    obtain ⟨hmem, hid⟩ := findStream_mem hst
    refine List.map_congr_left fun y hy => ?_
    split
    · next h => rw [List.inj_on_of_nodup_map hn hy hmem (h.trans hid.symm)]
    · rfl
  simp only [updateStream, placeOnSlotLane_rpc, State.withRpc_rpc, hmap]
  rfl

/-- A further change of the place's stream. -/
theorem updateStream_slotFilled {p : Place} {x : Stream} {v : State} (out : SlotOut) (f : Stream → Stream)
    (l : List SegmentRecord) (hx : x.id = p.stream) :
    updateStream p.stream f (slotFilled p out x l v) = slotFilled p out (f x) l v := by
  simp only [updateStream, slotFilled, State.withRpc_rpc, State.withRpc_twice, List.map_map]
  congr 2
  refine List.map_congr_left fun y _ => ?_
  by_cases h : y.id = p.stream <;> simp [h, hx]

theorem updateSegment_slotFilled {p : Place} {x : Stream} {v : State} (out : SlotOut) (q : Nat)
    (f : SegmentRecord → SegmentRecord) (l : List SegmentRecord) :
    updateSegment p.stream q f (slotFilled p out x l v) =
      slotFilled p out x (l.map fun r => if r.stream = p.stream ∧ r.sequence = q then f r else r) v := rfl

theorem findStream_slotFilled {p : Place} {st x : Stream} {v : State} (out : SlotOut) (l : List SegmentRecord)
    (hst : findStream p.stream v = some st) (hx : x.id = p.stream) :
    findStream p.stream (slotFilled p out x l v) = some x := by
  have htest : ((fun y : Stream => y.id == p.stream) ∘ fun y => if y.id = p.stream then x else y) =
      fun y => y.id == p.stream := by
    funext y
    by_cases h : y.id = p.stream <;> simp [h, hx]
  have hfind : v.rpc.streams.find? (fun y => y.id == p.stream) = some st := hst
  have hmap : (v.rpc.streams.map fun y => if y.id = p.stream then x else y).find? (fun y => y.id == p.stream) = some x := by
    rw [List.find?_map, htest, hfind, Option.map_some, if_pos (findStream_mem hst).2]
  exact hmap

/-- R126: a DRAINING stream finishes in the slot of its last chunk. -/
theorem finishDraining_slotFilled {p : Place} {st x : Stream} {v : State} (out : SlotOut) (l : List SegmentRecord)
    (hst : findStream p.stream v = some st) (hx : x.id = p.stream) :
    finishDraining p.stream (slotFilled p out x l v) =
      if x.withdrawn = false then slotFilled p out { x with state := .idle, wantedSince := none } l v
      else streamGone p.stream (slotFilled p out x l v) := by
  simp only [finishDraining, findStream_slotFilled out l hst hx, updateStream_slotFilled out _ l hx]
  cases x.withdrawn <;> rfl

/-- R145: the stream whose current segment, of sequence `q`, has ended. -/
def Stream.segmentEnded (q : Nat) (st : Stream) : Stream :=
  { st with cursor := { st.cursor with current := none, nextIndex := 0, lastSent := some q } }

/-- R145: the current segment's record becomes SPENT, its stream's cursor leaves it, and a DRAINING stream finishes. -/
theorem endSegment_eq (id q : Nat) (s : State) :
    endSegment id q s =
      (let w := updateStream id (Stream.segmentEnded q) (updateSegment id q (fun r => { r with state := .spent }) s)
       match findStream id w with
       | some st => if st.state = .draining then finishDraining id w else w
       | none => w) := rfl

/-- R145, R126: the end of the segment whose last chunk has gone out, and of a DRAINING stream with it. -/
theorem endSegment_slotFilled {p : Place} {st x : Stream} {v : State} (out : SlotOut) (q : Nat) (l : List SegmentRecord)
    (hst : findStream p.stream v = some st) (hx : x.id = p.stream) :
    endSegment p.stream q (slotFilled p out x l v) =
      (let spent := l.map fun r => if r.stream = p.stream ∧ r.sequence = q then { r with state := .spent } else r
       let y := x.segmentEnded q
       if x.state ≠ .draining then slotFilled p out y spent v
       else if x.withdrawn = false then slotFilled p out { y with state := .idle, wantedSince := none } spent v
       else streamGone p.stream (slotFilled p out y spent v)) := by
  have hy : (x.segmentEnded q).id = p.stream := hx
  rw [endSegment_eq, updateSegment_slotFilled, updateStream_slotFilled _ _ _ hx]
  simp only [findStream_slotFilled out _ hst hy, finishDraining_slotFilled out _ hst hy]
  exact (ite_not _ _ _).symm

/-- R145: the emission of a chunk, over the cache `l`. -/
theorem emitChunk_eq {p : Place} {st : Stream} {v : State} {r : SegmentRecord} {i : Nat} {b : List Byte}
    (l : List SegmentRecord) (hn : (v.rpc.streams.map Stream.id).Nodup) (hst : findStream p.stream v = some st)
    (hb : chunkAt i r.chunks = some b) :
    emitChunk p r i (v.withRpc { v.rpc with cache := l }) = chunkEmitted p st r i b l v := by
  have hid : st.id = p.stream := (findStream_mem hst).2
  unfold emitChunk chunkEmitted
  simp only [hb, Option.getD_some]
  rw [updateStream_placed _ _ _ hn hst]
  by_cases hi : i + 1 = r.count
  · simp only [hi, if_true, ne_eq, not_true_eq_false, if_false]
    rw [endSegment_slotFilled _ _ _ hst (by exact hid)]
    rfl
  · simp only [hi, if_false, ne_eq, not_false_eq_true, if_true]
    rfl

/-- R147, R148: an underrun, over the cache `l`. -/
theorem underrun_eq {p : Place} {st : Stream} {v : State} (l : List SegmentRecord)
    (hn : (v.rpc.streams.map Stream.id).Nodup) (hst : findStream p.stream v = some st) :
    underrun p st (v.withRpc { v.rpc with cache := l }) = underrunSlot p st (underrunOut v.sls.slot p st) l v := by
  have hcount : count16 st.underruns = 8 ↔ st.underruns = 7 := by
    simp only [count16, satAdd]; omega
  unfold underrun underrunSlot
  dsimp only
  rw [updateStream_placed _ _ _ hn hst]
  simp only [hcount]
  rfl

end Sys2Proof.Machine
end

section
/-! The choice of a segment (R146), and the handling of a slot whole (R144). -/
namespace Sys2Proof.Machine

/-! ## The records that become SPENT (R146, steps 1 and 2) -/

theorem spendWhere_eq (p : Place) (test : SegmentRecord → Bool) (s : State) :
    spendWhere p.stream test s = s.withRpc { s.rpc with cache := spentFor p test s.rpc.cache } := by
  have hcache : (s.rpc.cache.map fun r =>
      if r.stream == p.stream && r.state == .complete && test r then { r with state := .spent } else r) =
      spentFor p test s.rpc.cache :=
    List.map_congr_left fun x _ => by simp
  rw [spendWhere, hcache]

/-- Tests that agree on the COMPLETE records of the place's stream make the same records SPENT. -/
theorem spentFor_congr {p : Place} {test other : SegmentRecord → Bool} {l : List SegmentRecord}
    (h : ∀ x ∈ l, CompleteFor p x → test x = other x) : spentFor p test l = spentFor p other l := by
  refine List.map_congr_left fun x hx => ?_
  by_cases hc : CompleteFor p x
  · simp [h x hx hc]
  · simp [hc]

/-- Where no COMPLETE record of the place's stream passes the test, every record stays as it is. -/
theorem spentFor_none {p : Place} {test : SegmentRecord → Bool} {l : List SegmentRecord}
    (h : ∀ x ∈ l, CompleteFor p x → test x = false) : spentFor p test l = l := by
  refine (List.map_congr_left fun x hx => if_neg ?_).trans (List.map_id l)
  rintro ⟨hc, ht⟩
  simp [h x hx hc] at ht

/-- Two tests one after the other. -/
theorem spentFor_spentFor (p : Place) (first second : SegmentRecord → Bool) (l : List SegmentRecord) :
    spentFor p second (spentFor p first l) = spentFor p (fun x => first x || second x) l := by
  unfold spentFor
  rw [List.map_map]
  refine List.map_congr_left fun x _ => ?_
  by_cases h : CompleteFor p x ∧ first x = true
  · simp [h, CompleteFor]
  · by_cases hc : CompleteFor p x
    · have hf : ¬ first x = true := fun hf => h ⟨hc, hf⟩
      simp [hc, hf]
    · simp [hc]

theorem spentFor_append (p : Place) (test : SegmentRecord → Bool) (l k : List SegmentRecord) :
    spentFor p test (l ++ k) = spentFor p test l ++ spentFor p test k :=
  List.map_append

/-- The records that are COMPLETE still. -/
theorem filter_spentFor (p : Place) (test : SegmentRecord → Bool) (l : List SegmentRecord) :
    (spentFor p test l).filter (fun x => CompleteFor p x) = l.filter fun x => CompleteFor p x ∧ test x = false := by
  induction l with
  | nil => rfl
  | cons x l ih =>
    have hcons : spentFor p test (x :: l) =
        (if CompleteFor p x ∧ test x = true then { x with state := .spent } else x) :: spentFor p test l := rfl
    rw [hcons, List.filter_cons, List.filter_cons, ih]
    by_cases hc : CompleteFor p x
    · cases ht : test x <;> simp [hc, CompleteFor]
    · simp [hc]

theorem completeOf_eq (p : Place) (s : State) :
    completeOf p.stream s = s.rpc.cache.filter fun x => CompleteFor p x := by
  unfold completeOf
  congr 1
  funext x
  rw [Bool.eq_iff_iff]
  simp

theorem completeOf_length (p : Place) (s : State) :
    (completeOf p.stream s).length = s.rpc.cache.countP fun x => CompleteFor p x := by
  rw [completeOf_eq, List.countP_eq_length_filter]

theorem seqAhead_eq (t : Nat) (x : SegmentRecord) : seqAhead x.sequence t = decide (AheadOf t x) := by
  rw [Bool.eq_iff_iff, decide_eq_true_iff, seqAhead, Bool.and_eq_true, decide_eq_true_iff, decide_eq_true_iff]
  rfl

/-- R146, step 1. -/
theorem spendBehind_some (p : Place) (t : Nat) (s : State) :
    spendBehind p.stream (some t) s =
      s.withRpc { s.rpc with cache := spentFor p (fun x => !decide (AheadOf t x)) s.rpc.cache } := by
  simp only [← seqAhead_eq, ← spendWhere_eq]
  rfl

/-- R146, step 2: without a lag. -/
theorem lagCut_few {id : Nat} {last : Option Nat} {s : State} (h : (completeOf id s).length ≤ 8) : lagCut id last s = s :=
  if_neg (Nat.not_lt.2 h)

/-- R146, step 2: with a lag, the records that are not among the newest four are skipped. -/
theorem lagCut_many {p : Place} {last : Option Nat} {s : State} (h : 8 < (completeOf p.stream s).length) :
    lagCut p.stream last s =
      (lagCounted (completeOf p.stream s).length s).withRpc { s.rpc with
        cache := spentFor p
          (fun x => !((newestFour last (completeOf p.stream s)).map SegmentRecord.sequence).contains x.sequence)
          s.rpc.cache } := by
  refine (if_pos h).trans ?_
  simp only [spendWhere_eq, lagCounted, h, if_true]
  rfl

theorem lagCounted_few {n : Nat} (s : State) (h : n ≤ 8) : lagCounted n s = s := by
  simp [lagCounted, Nat.not_lt.2 h]
  rfl

/-- R127: two records of the place's stream with one sequence are one record. -/
theorem eq_of_sequence {p : Place} {l : List SegmentRecord} {x y : SegmentRecord}
    (hk : (l.map fun r => (r.stream, r.sequence)).Nodup) (hx : x ∈ l) (hy : y ∈ l) (hcx : CompleteFor p x)
    (hcy : CompleteFor p y) (h : x.sequence = y.sequence) : x = y :=
  List.inj_on_of_nodup_map hk hx hy (Prod.ext (hcx.1.trans hcy.1.symm) h)

/-! ## The record nearest ahead (R146, step 3) -/

theorem nearest_some (t : Nat) (l : List SegmentRecord) :
    nearest (some t) l = pickBest (fun a r => decide (aheadBy a t ≤ aheadBy r t)) l := by
  simp only [nearest, pickBest]
  congr 1
  funext acc r
  cases acc with
  | none => rfl
  | some a => 
    simp only [keepBetter, decide_eq_true_eq, ← Nat.not_lt, ite_not]
    rfl

/-- A record as near as every other is the one chosen, where no other has its sequence. -/
theorem nearest_least {t : Nat} {l : List SegmentRecord} {r : SegmentRecord} (hr : r ∈ l)
    (hleast : ∀ x ∈ l, aheadBy r t ≤ aheadBy x t) (hone : ∀ x ∈ l, aheadBy x t = aheadBy r t → x = r) :
    nearest (some t) l = some r := by
  obtain ⟨a, ha, hpick, hbest⟩ := pickBest_best (better := fun a x => decide (aheadBy a t ≤ aheadBy x t))
    (fun a b => by simpa using Nat.le_total _ _) (fun a b c => by simpa using Nat.le_trans) l (List.ne_nil_of_mem hr)
  have hle : aheadBy a t ≤ aheadBy r t := by simpa using hbest r hr
  rw [nearest_some, hpick, hone a ha (Nat.le_antisymm hle (hleast a ha))]

/-- R127: sequences below 65536 as far ahead are equal. -/
theorem sequence_eq_of_aheadBy {t : Nat} {x y : SegmentRecord} (hx : x.sequence < 65536) (hy : y.sequence < 65536)
    (h : aheadBy x t = aheadBy y t) : x.sequence = y.sequence := by
  unfold aheadBy at h
  omega

end Sys2Proof.Machine
end

section
/-! The handling of a slot whole (R144 to R148). -/
namespace Sys2Proof.Machine

/-! ## The next segment of a stream (R145, R146) -/

/-- R146, step 2: the records ahead of which fewer than four are further ahead, as `newestFour` finds them by their sequences. -/
theorem mem_newestFour {p : Place} {t : Nat} {l : List SegmentRecord} {x : SegmentRecord}
    (hk : (l.map fun r => (r.stream, r.sequence)).Nodup) (hx : x ∈ l) (hc : CompleteFor p x) :
    x.sequence ∈ (newestFour (some t) (l.filter fun y => CompleteFor p y ∧ AheadOf t y)).map SegmentRecord.sequence ↔
      AheadOf t x ∧ l.countP (fun y => CompleteFor p y ∧ AheadOf t y ∧ aheadBy x t < aheadBy y t) < 4 := by
  have hcount (y : SegmentRecord) :
      (l.filter fun y => CompleteFor p y ∧ AheadOf t y).countP
          (fun z => decide (seqDistance y.sequence t < seqDistance z.sequence t)) =
        l.countP fun z => CompleteFor p z ∧ AheadOf t z ∧ aheadBy y t < aheadBy z t := by
    rw [List.countP_filter]
    refine List.countP_congr fun z _ => ?_
    simp only [Bool.and_eq_true, decide_eq_true_eq]
    exact ⟨fun ⟨h, hc, ha⟩ => ⟨hc, ha, h⟩, fun ⟨hc, ha, h⟩ => ⟨h, hc, ha⟩⟩
  simp only [newestFour, List.mem_map, List.mem_filter, decide_eq_true_eq, hcount]
  constructor
  · rintro ⟨y, ⟨⟨hy, hcy, hay⟩, hfew⟩, hseq⟩
    obtain rfl := eq_of_sequence hk hy hx hcy hc hseq
    exact ⟨hay, hfew⟩
  · rintro ⟨hax, hfew⟩
    exact ⟨x, ⟨⟨hx, hc, hax⟩, hfew⟩, rfl⟩

/-- R146: what steps 1 and 2 leave, where a sequence has been sent: the COMPLETE records that stay are those of `StaysComplete`. -/
theorem segments_cut {p : Place} {t : Nat} {u : State}
    (hk : (u.rpc.cache.map fun r => (r.stream, r.sequence)).Nodup) :
    lagCut p.stream (some t) (spendBehind p.stream (some t) u) =
      (lagCounted (u.rpc.cache.countP fun y => CompleteFor p y ∧ AheadOf t y) u).withRpc { u.rpc with
        cache := spentFor p (fun x => ¬ StaysComplete p t u.rpc.cache x) u.rpc.cache } := by
  have hahead : completeOf p.stream (spendBehind p.stream (some t) u) =
      u.rpc.cache.filter fun y => CompleteFor p y ∧ AheadOf t y := by
    rw [completeOf_eq, spendBehind_some, State.withRpc_rpc, filter_spentFor]
    refine List.filter_congr fun x _ => ?_
    simp only [Bool.not_eq_false', decide_eq_true_eq]
  have hlength := congrArg List.length hahead
  rw [← List.countP_eq_length_filter] at hlength
  by_cases hlag : 8 < u.rpc.cache.countP fun y => CompleteFor p y ∧ AheadOf t y
  · have htest : ∀ x ∈ u.rpc.cache, CompleteFor p x →
        (!decide (AheadOf t x) || !((newestFour (some t)
          (u.rpc.cache.filter fun y => CompleteFor p y ∧ AheadOf t y)).map SegmentRecord.sequence).contains x.sequence) =
        decide ¬ StaysComplete p t u.rpc.cache x := by
      intro x hx hc
      rw [Bool.eq_iff_iff, Bool.or_eq_true, Bool.not_eq_true', decide_eq_false_iff_not, Bool.not_eq_true',
        ← Bool.not_eq_true, List.contains_iff_mem, mem_newestFour hk hx hc, decide_eq_true_iff, StaysComplete]
      tauto
    rw [lagCut_many (hlength ▸ hlag), hlength, hahead, spendBehind_some, State.withRpc_rpc, spentFor_spentFor,
      spentFor_congr htest]
    rfl
  · have htest : ∀ x ∈ u.rpc.cache, CompleteFor p x →
        (!decide (AheadOf t x)) = decide ¬ StaysComplete p t u.rpc.cache x := by
      intro x _ _
      rw [Bool.eq_iff_iff, Bool.not_eq_true', decide_eq_false_iff_not, decide_eq_true_iff, StaysComplete]
      tauto
    rw [lagCut_few (hlength ▸ Nat.not_lt.1 hlag), lagCounted_few _ (Nat.not_lt.1 hlag), spendBehind_some,
      spentFor_congr htest]

/-- R145: the first chunk of the segment that steps 1 to 3 of R146 choose. -/
theorem emitNext_chosen {p : Place} {st : Stream} {u v : State} {l : List SegmentRecord} {r : SegmentRecord}
    {b : List Byte} (hcut : lagCut p.stream st.cursor.lastSent (spendBehind p.stream st.cursor.lastSent u) =
      v.withRpc { v.rpc with cache := l })
    (hnear : nearest st.cursor.lastSent (l.filter fun x => CompleteFor p x) = some r)
    (hn : (v.rpc.streams.map Stream.id).Nodup) (hst : findStream p.stream v = some st)
    (hb : chunkAt 0 r.chunks = some b) :
    emitNext p st u = chunkEmitted p st r 0 b (sendingFor p r l) v := by
  simp only [emitNext, hcut, completeOf_eq, State.withRpc_rpc, hnear]
  exact emitChunk_eq (sendingFor p r l) hn hst hb

/-- R147: an underrun, where steps 1 to 3 of R146 choose no segment. -/
theorem emitNext_underrun {p : Place} {st : Stream} {u v : State} {l : List SegmentRecord}
    (hcut : lagCut p.stream st.cursor.lastSent (spendBehind p.stream st.cursor.lastSent u) =
      v.withRpc { v.rpc with cache := l })
    (hnear : nearest st.cursor.lastSent (l.filter fun x => CompleteFor p x) = none)
    (hn : (v.rpc.streams.map Stream.id).Nodup) (hst : findStream p.stream v = some st) :
    emitNext p st u = underrunSlot p st (underrunOut v.sls.slot p st) l v := by
  simp only [emitNext, hcut, completeOf_eq, State.withRpc_rpc, hnear]
  exact underrun_eq l hn hst

/-- R146: with no sequence sent, step 1 spends nothing, and up to 8 COMPLETE records are no lag. -/
theorem segments_uncut {p : Place} {u : State} (h : (u.rpc.cache.countP fun y => CompleteFor p y) ≤ 8) :
    lagCut p.stream none (spendBehind p.stream none u) = u :=
  lagCut_few ((completeOf_length p u).trans_le h)

/-- R146, step 2: with no sequence sent, a lag spends the COMPLETE records before the fourth from the end. -/
theorem segments_cut_unsent {p : Place} {u : State} {pre post : List SegmentRecord} {r : SegmentRecord}
    (hk : (u.rpc.cache.map fun r => (r.stream, r.sequence)).Nodup) (hcache : u.rpc.cache = pre ++ r :: post)
    (hr : CompleteFor p r) (hlag : 8 < u.rpc.cache.countP fun y => CompleteFor p y)
    (hpost : (post.countP fun y => CompleteFor p y) = 3) :
    lagCut p.stream none (spendBehind p.stream none u) =
      (lagCounted (u.rpc.cache.countP fun y => CompleteFor p y) u).withRpc { u.rpc with
        cache := spentFor p (fun _ => true) pre ++ r :: post } := by
  have hlength := completeOf_length p u
  have hnewest : newestFour none (completeOf p.stream u) = (r :: post).filter fun x => CompleteFor p x := by
    have hkept : ((r :: post).filter fun x => CompleteFor p x).length = 4 := by
      rw [← List.countP_eq_length_filter, List.countP_cons, hpost]
      simp [hr]
    rw [completeOf_eq, hcache, List.filter_append]
    simp only [newestFour, List.length_append, hkept, Nat.add_sub_cancel, List.drop_left]
  rw [hcache, List.map_append] at hk
  obtain ⟨-, hkpost, hapart⟩ := List.nodup_append.1 hk
  have hcut : spentFor p
      (fun x => !(((r :: post).filter fun x => CompleteFor p x).map SegmentRecord.sequence).contains x.sequence)
      (pre ++ r :: post) = spentFor p (fun _ => true) pre ++ r :: post := by
    rw [spentFor_append]
    congr 1
    · refine spentFor_congr fun x hx hc => ?_
      rw [Bool.not_eq_true', ← Bool.not_eq_true, List.contains_iff_mem, List.mem_map]
      rintro ⟨y, hy, hseq⟩
      obtain ⟨hy, hcy⟩ := List.mem_filter.1 hy
      refine hapart _ (List.mem_map_of_mem hx) _ (List.mem_map_of_mem hy) (Prod.ext ?_ hseq.symm)
      exact hc.1.trans (of_decide_eq_true hcy).1.symm
    · refine spentFor_none fun x hx hc => ?_
      rw [Bool.not_eq_false', List.contains_iff_mem]
      exact List.mem_map_of_mem (List.mem_filter.2 ⟨hx, decide_eq_true hc⟩)
  have hmany := lagCut_many (last := none) (hlength ▸ hlag)
  rw [hnewest, hlength, hcache, hcut] at hmany
  rw [hcache]
  exact hmany

/-- R146, step 1: where no COMPLETE record is ahead, every one becomes SPENT. -/
theorem segments_behind {p : Place} {last : Option Nat} {u : State}
    (hk : (u.rpc.cache.map fun r => (r.stream, r.sequence)).Nodup)
    (h : ∀ x ∈ u.rpc.cache, CompleteFor p x → ∃ t, last = some t ∧ ¬ AheadOf t x) :
    lagCut p.stream last (spendBehind p.stream last u) =
      u.withRpc { u.rpc with cache := spentFor p (fun _ => true) u.rpc.cache } := by
  cases last with
  | none =>
    have hno : ∀ x ∈ u.rpc.cache, ¬ CompleteFor p x := fun x hx hc => by simpa using h x hx hc
    have hcount : (u.rpc.cache.countP fun y => CompleteFor p y) = 0 :=
      List.countP_eq_zero.2 fun x hx => by simpa using hno x hx
    rw [segments_uncut (by omega), spentFor_none fun x hx hc => absurd hc (hno x hx)]
    rfl
  | some t =>
    have hbehind : ∀ x ∈ u.rpc.cache, CompleteFor p x → ¬ AheadOf t x := fun x hx hc => by
      obtain ⟨t', ht, hx⟩ := h x hx hc
      rwa [Option.some.inj ht]
    have hcount : (u.rpc.cache.countP fun y => CompleteFor p y ∧ AheadOf t y) = 0 :=
      List.countP_eq_zero.2 fun x hx => by simpa using fun hs hc => by simpa using hbehind x hx ⟨hs, hc⟩
    have htest : ∀ x ∈ u.rpc.cache, CompleteFor p x → decide (¬ StaysComplete p t u.rpc.cache x) = true :=
      fun x hx hc => decide_eq_true fun ⟨hahead, _⟩ => hbehind x hx hc hahead
    rw [segments_cut hk, lagCounted_few _ (by omega), spentFor_congr htest]

theorem nearest_nil (last : Option Nat) : nearest last [] = none := by
  cases last <;> rfl

theorem filter_allSpent (p : Place) (l : List SegmentRecord) :
    (spentFor p (fun _ => true) l).filter (fun x => CompleteFor p x) = [] := by
  rw [filter_spentFor]
  simp

/-- The first of the COMPLETE records in a cache. -/
theorem head_filter_complete {p : Place} {pre post : List SegmentRecord} {r : SegmentRecord}
    (hpre : pre.filter (fun x => CompleteFor p x) = []) (hr : CompleteFor p r) :
    nearest none ((pre ++ r :: post).filter fun x => CompleteFor p x) = some r := by
  rw [List.filter_append, hpre, List.nil_append,
    List.filter_cons_of_pos (p := fun x => decide (CompleteFor p x)) (decide_eq_true hr)]
  rfl

/-- R145 to R148: the emission of a slot, as `SlotEmitted` writes it out. -/
theorem emitSlot_emitted {p : Place} {st : Stream} {u : State} {ends : State → Prop} (hk : StreamKeys u)
    (hst : findStream p.stream u = some st) (h : ends (emitSlot p st u)) : SlotEmitted p st u ends := by
  obtain ⟨hn, hkeys, hseq⟩ := hk
  refine ⟨fun q r b hcur hfind hb => ?_, fun hcur hbehind => ?_, fun r b t hcur hlast hr hc hstays hleast hb => ?_,
    fun pre r post b hcur hlast hcache hc hb => ⟨fun hfew hpre => ?_, fun hlag hpost => ?_⟩⟩
  · rw [emitSlot, hcur] at h
    simp only [hfind] at h
    rwa [← emitChunk_eq u.rpc.cache hn hst hb]
  all_goals simp only [emitSlot, hcur] at h
  · rw [emitNext_underrun (segments_behind hkeys hbehind) (by rw [filter_allSpent, nearest_nil]) hn hst] at h
    refine ⟨fun c hlast hrep => ?_, fun hfill => ?_⟩
    · rw [underrunOut, hrep, hlast] at h
      exact h
    · have hout : underrunOut u.sls.slot p st = fillerOf u.sls.slot p := by
        rcases hfill with hf | hf <;> rw [underrunOut, hf]
        · cases p.padding <;> rfl
        · rfl
      rwa [hout] at h
  · have hleft : ∀ x ∈ (spentFor p (fun x => ¬ StaysComplete p t u.rpc.cache x) u.rpc.cache).filter
        (fun x => CompleteFor p x), x ∈ u.rpc.cache ∧ CompleteFor p x ∧ StaysComplete p t u.rpc.cache x := by
      intro x hx
      rw [filter_spentFor] at hx
      simpa only [List.mem_filter, decide_eq_true_eq, decide_eq_false_iff_not, not_not] using hx
    have hnear : nearest (some t) ((spentFor p (fun x => ¬ StaysComplete p t u.rpc.cache x) u.rpc.cache).filter
        fun x => CompleteFor p x) = some r := by
      refine nearest_least ?_ (fun x hx => ?_) fun x hx heq => ?_
      · rw [filter_spentFor]
        simpa only [List.mem_filter, decide_eq_true_eq, decide_eq_false_iff_not, not_not] using ⟨hr, hc, hstays⟩
      · obtain ⟨hx, hcx, hsx⟩ := hleft x hx
        exact hleast x hx hcx hsx
      · obtain ⟨hx, hcx, -⟩ := hleft x hx
        exact eq_of_sequence hkeys hx hr hcx hc (sequence_eq_of_aheadBy (hseq x hx) (hseq r hr) heq)
    rw [emitNext_chosen (v := lagCounted _ u) (by rw [hlast]; exact segments_cut hkeys) (by rw [hlast]; exact hnear)
      hn hst hb] at h
    exact h
  · have hnear := head_filter_complete (post := post) (List.filter_eq_nil_iff.2 fun x hx => by simpa using hpre x hx) hc
    rw [← hcache] at hnear
    rw [emitNext_chosen (l := u.rpc.cache) (by rw [hlast]; exact segments_uncut hfew) (by rw [hlast]; exact hnear)
      hn hst hb] at h
    exact h
  · have hnear := head_filter_complete (post := post) (filter_allSpent p pre) hc
    rw [emitNext_chosen (v := lagCounted _ u) (by rw [hlast]; exact segments_cut_unsent hkeys hcache hc hlag hpost)
      (by rw [hlast]; exact hnear) hn hst hb] at h
    exact h

/-- R144: an unassigned slot carries nothing, and neither does one of a stream that is gone or IDLE. -/
theorem handleSlot_handled {u : State} {ends : State → Prop} (hk : StreamKeys u) (h : ends (handleSlot u)) :
    SlotHandled u ends := by
  unfold handleSlot placeAt at h
  refine ⟨fun hplace => ?_, fun p hplace => ⟨fun hno => ?_, fun st hst => ⟨fun hidle => ?_, fun hrun => ?_⟩⟩⟩
  · rcases hplace with hp | hp <;> rw [hp] at h <;> exact h
  all_goals rw [hplace] at h
  · simpa only [Option.join_some, hno] using h
  · simpa only [Option.join_some, hst, hidle, if_true] using h
  · refine emitSlot_emitted hk hst ?_
    simpa only [Option.join_some, hst, hrun, if_false] using h

end Sys2Proof.Machine
end

section
/-! The marks of the frame timer: a map in force, the gap drop, the last slot (R137, R139, R143). -/
namespace Sys2Proof.Machine

/-! ## The gap drop (R134) -/

theorem raiseGaps_eq (n : Nat) (s : State) :
    raiseGaps n s = s.withNtu ((Ntu.occur .segmentGap)^[n] s.ntu) := by
  induction n generalizing s with
  | zero => rfl
  | succ n ih => exact ih (raise .segmentGap s)

/-- R134, R127: a FILLING record behind a COMPLETE one of its stream, by the distance of their sequences. -/
theorem gapped_eq (l : List SegmentRecord) (r : SegmentRecord) :
    gapped l r = (r.state == .filling && l.any fun x =>
      x.stream == r.stream && x.state == .complete &&
        decide (1 ≤ (x.sequence + (65536 - r.sequence % 65536)) % 65536 ∧
          (x.sequence + (65536 - r.sequence % 65536)) % 65536 ≤ 32767)) := by
  unfold gapped
  congr 2
  funext x
  exact congrArg _ (seqAhead_eq r.sequence x)

/-- R123: a stream follows the new map, its entry being in the map's order list. -/
theorem follow_eq (m : SlotMap) (st : Stream) :
    Stream.follow m st =
      if (∃ o ∈ m.order, o.stream = st.id ∧ o.born = st.born) ∧
          (st.state = .wanted ∨ st.state = .live ∨ st.state = .starved) then
        { st with state := if 0 < m.slotsOf st.id then .live else .starved }
      else st := by
  refine if_congr ?_ rfl rfl
  simp [or_assoc]

theorem follow_id (m : SlotMap) (st : Stream) : (Stream.follow m st).id = st.id := by
  unfold Stream.follow
  split <;> rfl

/-- R123, R134: the streams and the cache keep their keys as a map comes into force. -/
theorem streamKeys_followed {u v : State} {m : SlotMap} {test : SegmentRecord → Bool} (h : StreamKeys u)
    (hs : v.rpc.streams = u.rpc.streams.map (Stream.follow m)) (hc : v.rpc.cache = u.rpc.cache.filter test) :
    StreamKeys v := by
  obtain ⟨hid, hkeys, hseq⟩ := h
  have hids : v.rpc.streams.map Stream.id = u.rpc.streams.map Stream.id := by
    rw [hs, List.map_map]
    exact List.map_congr_left fun st _ => follow_id m st
  refine ⟨hids ▸ hid, ?_, fun r hr => hseq r ?_⟩
  · rw [hc]
    exact hkeys.sublist (List.filter_sublist.map _)
  · rw [hc] at hr
    exact List.mem_of_mem_filter hr

/-! ## The marks (R137, R139) -/

/-- R144: an unassigned slot carries nothing. -/
theorem handleSlot_unassigned {u : State} (h : placeAt u.sls.slot u = none) : handleSlot u = u := by
  rw [handleSlot, h]

/-- R8: the restore-hold step. -/
theorem restoreHoldStep_eq (x : State) :
    restoreHoldStep x = x.withPrm { x.prm with
      restoreHold := if 0 < x.prm.restoreHold ∧ x.prm.monitor ≠ .critical then x.prm.restoreHold - 1
        else x.prm.restoreHold } := by
  unfold restoreHoldStep
  split <;> rfl

/-- R9: the pool is halved in CRITICAL and while the restore hold runs. -/
theorem pool_eq (x : State) :
    pool x = if x.prm.monitor = .critical ∨ 0 < x.prm.restoreHold then x.rmax / 2 else x.rmax := by
  refine if_congr ?_ rfl rfl
  simp [Prm.halved]

/-- R8, R9, R139: the rebuild counts the restore hold down, and builds the next map from the pool that this leaves. -/
theorem rebuild_eq (x : State) :
    rebuild x =
      (let hold := if 0 < x.prm.restoreHold ∧ x.prm.monitor ≠ .critical then x.prm.restoreHold - 1 else x.prm.restoreHold
       let y := x.withPrm { x.prm with restoreHold := hold }
       let k := if x.prm.monitor = .critical ∨ 0 < hold then x.rmax / 2 else x.rmax
       y.withSls { y.sls with nextMap := some (buildMap k y) }) := by
  rw [rebuild, restoreHoldStep_eq, pool_eq]
  rfl

/-- Settles O51: each mark is the start of its slot, the handling of that slot, and before it the map that comes into force, or after it
the rebuild. -/
theorem mapsComeIntoForce : Obligations.MapsComeIntoForce := by
  intro s hrun kept begun
  refine ⟨fun hslot => ?_, fun hslot => ?_⟩
  · intro empty m v gap w
    have hv : v.rpc = s.rpc := recompute_rpc _
    have hput : putInForce (startSlot 0 s) =
        v.withRpc { s.rpc with streams := s.rpc.streams.map (Stream.follow m) } := by
      rw [← hv]
      rfl
    have hgap : gapped s.rpc.cache = gap := funext (gapped_eq _)
    have hfollow : s.rpc.streams.map (Stream.follow m) = w.rpc.streams := List.map_congr_left fun st _ => follow_eq m st
    have hw : gapDrop (putInForce (startSlot 0 s)) = w := by
      rw [hput, gapDrop, raiseGaps_eq]
      simp only [State.withRpc_rpc, hgap, hfollow]
      rfl
    have hexec : exec .frameStart s = .next (handleSlot w) := by
      rw [← hw]
      exact if_pos ⟨hrun, hslot⟩
    have hsls : v.sls = { (begun 0).sls with inForce := some m, nextMap := none, resetPending := false } := recompute_sls _
    have hplaceAt : placeAt w.sls.slot w = (m.places[0]?).join := by
      rw [placeAt, show w.sls = v.sls from rfl, hsls]
      rfl
    refine ⟨fun hplace => ?_, fun hk => handleSlot_handled (streamKeys_followed hk hfollow.symm rfl) hexec⟩
    rw [hexec, handleSlot_unassigned]
    rw [hplaceAt]
    rcases hplace with h | h <;> rw [h] <;> rfl
  · intro rebuilt
    have hstart : startSlot (s.sls.slot + 1) s = begun (s.slots - 1) := by
      rw [show s.slots - 1 = s.sls.slot + 1 by omega]
      rfl
    have hexec : exec .lastSlotStart s = .next (rebuilt (handleSlot (begun (s.slots - 1)))) := by
      rw [← hstart]
      exact (if_pos ⟨hrun, hslot⟩).trans (congrArg _ (rebuild_eq _))
    refine ⟨fun hplace => ?_, fun hk => handleSlot_handled hk hexec⟩
    rw [hexec, handleSlot_unassigned]
    change (s.sls.inForce.bind fun m => m.places[s.slots - 1]?).join = none
    cases hm : s.sls.inForce with
    | none => rfl
    | some m => simpa [hm] using hplace

end Sys2Proof.Machine
end

section
/-! What a step can do to the tables that the invariants of the association table speak of (R22 to R26, R47, R76): a short list of
moves. Each invariant is kept by every move. -/
namespace Sys2Proof.Machine

/-- The parts of the state that the invariants of the association table, of the handoffs and of the seats speak of. -/
def State.tables (s : State) : NodeState × Option NodeConfig × List Record × List Inflight × List SeatEntry :=
  (s.cfl.node, s.cfl.config, s.ast.records, s.hoe.inflight, s.ens.seats)

theorem tables_eq_iff {s t : State} : t.tables = s.tables ↔
    t.cfl.node = s.cfl.node ∧ t.cfl.config = s.cfl.config ∧ t.ast.records = s.ast.records ∧
      t.hoe.inflight = s.hoe.inflight ∧ t.ens.seats = s.ens.seats := by
  simp [State.tables]

/-- R47: the states in which a record has an in-flight entry. -/
def Record.linked (r : Record) : Prop := r.state = .pulling ∨ r.state = .offering

/-- R22, R26, R44, R98: what becomes of a client's record in any change of it. -/
structure RecordKept (s : State) (r r' : Record) : Prop where
  client : r'.client = r.client
  subs : r.subs.length ≤ 4 → r.subs.Nodup → r'.subs.length ≤ 4 ∧ r'.subs.Nodup
  badCodes : r.badCodes ≤ 4 → r'.badCodes ≤ 4
  guest : r'.cls = .guest → r.cls = .guest ∨ s.guests < s.capacity
  home : r'.cls = .home →
    (r.cls = .home ∧ r'.binding = r.binding) ∨ ∃ b, r'.binding = some b ∧ checkedInBy r.client b.seat s = true

/-- R25: a steer hold or an expectation hold is begun only in its own state, and is kept only by a record whose state stays. A record
in another state, or with an in-flight entry, carries neither. -/
def TimerKept (s : State) (r r' : Record) : Prop :=
  r'.timer = none ∨ r'.timer = some .claimant ∨ (r'.timer = some .steer ∧ r'.state = .steered) ∨
    (r'.timer = r.timer ∧ (r'.state = r.state ∨ (r.state ≠ .steered ∧ r.state ≠ .expected) ∨
      ∃ e ∈ s.hoe.inflight, e.client = r.client))

/-- R22, R25: what a record that an admission makes looks like. -/
structure RecordNew (s : State) (r : Record) : Prop where
  absent : findRecord r.client s = none
  joined : s.cfl.node = .joined
  room : s.ast.records.length < 160
  guest : r.cls = .guest → s.guests < s.capacity
  home : r.cls = .home → ∃ b, r.binding = some b ∧ checkedInBy r.client b.seat s = true
  subs : r.subs = []
  badCodes : r.badCodes = 0
  steer : r.timer ≠ some .steer
  expectation : r.timer = some .expectation → r.state = .expected
  expected : r.state = .expected → r.peer.isSome

/-- The record that an in-flight entry belongs to (R47). -/
def EntryOf (e : Inflight) (r : Record) : Prop :=
  r.client = e.client ∧ r.peer = some e.peer ∧ r.state = if e.kind = .pull then .pulling else .offering

/-- R76, R83: a ticket number on the entry that comes to an index is that of the entry that stood there, or one that no other entry
holds. -/
def NumberFree (s : State) (index : Nat) (e : SeatEntry) : Prop :=
  ∀ n, e.standing.ticketNumber = some n →
    ((s.ens.seats[index]?).bind fun x => x.standing.ticketNumber) = some n ∨ TicketFree index n s

/-- What a command can do to the tables, move by move. -/
inductive Move (s : State) : State → Prop where
  | same {t : State} (h : t.tables = s.tables) : Move s t
  | entries (f : Inflight → Inflight) (h : ∀ e, (f e).client = e.client ∧ (f e).kind = e.kind ∧ (f e).peer = e.peer) :
      Move s (s.withHoe { s.hoe with inflight := s.hoe.inflight.map f })
  | changed {c : Nat} {r : Record} (f : Record → Record) (hmem : r ∈ s.ast.records ∧ r.client = c) (hkept : RecordKept s r (f r))
      (htimer : TimerKept s r (f r))
      (hstate : ((f r).state = r.state ∧ (f r).peer = r.peer) ∨
        ((¬ r.linked ∨ r.timer = some .steer) ∧ ¬ (f r).linked ∧ (f r).state ≠ .expected)) : Move s (updateRecord c f s)
  | ended {c : Nat} {r : Record} (f : Record → Record) (hmem : r ∈ s.ast.records ∧ r.client = c) (hkept : RecordKept s r (f r))
      (htimer : TimerKept s r (f r)) (hstate : ¬ (f r).linked ∧ (f r).state ≠ .expected) :
      Move s (updateRecord c f (dropInflight c s))
  | begun {c : Nat} {r : Record} (f : Record → Record) (e : Inflight) (hmem : r ∈ s.ast.records ∧ r.client = c)
      (hkept : RecordKept s r (f r)) (htimer : TimerKept s r (f r)) (hfree : ¬ r.linked)
      (he : (r.state = .expected → r.peer.isSome) → EntryOf e (f r)) :
      Move s (addInflight e (updateRecord c f s))
  | added (r : Record) (h : RecordNew s r) (hfree : ¬ r.linked) :
      Move s (s.withAst { s.ast with records := s.ast.records ++ [r] })
  | pulling (r : Record) (e : Inflight) (h : RecordNew s r) (he : EntryOf e r) :
      Move s (addInflight e (s.withAst { s.ast with records := s.ast.records ++ [r] }))
  | removed (c : Nat) : Move s (dropInflight c (s.withAst { s.ast with records := s.ast.records.filter fun x => x.client ≠ c }))
  | left {c : Nat} {r : Record} (hmem : r ∈ s.ast.records ∧ r.client = c) (hfree : ¬ r.linked) :
      Move s (s.withAst { s.ast with records := s.ast.records.filter fun x => x.client ≠ c })
  | streamLeft (id : Nat) : Move s (s.withAst { s.ast with
      records := s.ast.records.map fun r => { r with subs := r.subs.filter fun x => x ≠ id } })
  | seatKept {i : Nat} {e : SeatEntry} (e' : SeatEntry) (hseat : s.ens.seats[i]? = some e)
      (hnumber : e'.standing.ticketNumber = e.standing.ticketNumber)
      (hholder : ∀ t holder time, e.standing = .checkedIn t holder time → e'.standing = e.standing) :
      Move s (writeSeat i e' s)
  | seatReplaced (c : NodeConfig) (i : Nat) (e : SeatEntry) (hc : s.cfl.config = some c) (h : NumberFree s i e) :
      Move s (replaceSeat c i e s)
  | ticketMoved (c : NodeConfig) {i j n : Nat} (e : SeatEntry) (hc : s.cfl.config = some c) (hne : j ≠ i)
      (hfrom : ((s.ens.seats[j]?).bind fun x => x.standing.ticketNumber) = some n)
      (hto : e.standing.ticketNumber = some n) : Move s (replaceSeat c i e (replaceSeat c j emptySeat s))
  | configured (raw : NodeConfig) (hnode : s.cfl.node = .loading) : Move s (listeningState raw s)
  | node (v : Cfl) (hconfig : v.config = s.cfl.config)
      (hnode : v.node = .joined ∨ v.node = .muted ∨ (v.node = .unconfigured ∧ s.cfl.node = .loading)) : Move s (s.withCfl v)
  | reset {t : State} (h : t.tables = State.reset.tables) : Move s t

/-- What a command can do to the tables. -/
abbrev Moves : State → State → Prop := Relation.ReflTransGen Move

/-! ## One record among those of a list (R22) -/

/-- R22: a record of the list is the one found for its client. -/
theorem findRecord_of_mem {c : Nat} {r : Record} {s : State} (hn : (s.ast.records.map Record.client).Nodup)
    (h : r ∈ s.ast.records ∧ r.client = c) : findRecord c s = some r := by
  obtain ⟨hr, rfl⟩ := h
  obtain ⟨x, hx⟩ : ∃ x, findRecord r.client s = some x := by
    rw [← Option.isSome_iff_exists, findRecord, List.find?_isSome]
    exact ⟨r, hr, by simp⟩
  obtain ⟨hmem, hc⟩ := findRecord_mem hx
  rw [hx, List.inj_on_of_nodup_map hn hmem hr hc]

/-- R22: a client's record, with the others of the list on both sides. -/
theorem findRecord_split {c : Nat} {r : Record} {s : State} (hn : (s.ast.records.map Record.client).Nodup)
    (h : findRecord c s = some r) : ∃ pre post, s.ast.records = pre ++ r :: post ∧ ∀ x ∈ pre ++ post, x.client ≠ c := by
  obtain ⟨hmem, rfl⟩ := findRecord_mem h
  obtain ⟨pre, post, hl⟩ := List.append_of_mem hmem
  refine ⟨pre, post, hl, fun x hx hc => ?_⟩
  rw [hl] at hn
  have hperm : (pre ++ r :: post).map Record.client |>.Perm ((r :: (pre ++ post)).map Record.client) :=
    List.perm_middle.map _
  exact (List.nodup_cons.1 (hperm.nodup_iff.1 hn)).1 (hc ▸ List.mem_map_of_mem hx)

/-- The change of a record, with the others of the list on both sides. -/
theorem recordBecomes_split {c : Nat} {r r' : Record} {s : State} {pre post : List Record}
    (hl : s.ast.records = pre ++ r :: post) (hc : r.client = c) (hothers : ∀ x ∈ pre ++ post, x.client ≠ c) :
    (recordBecomes c r' s).ast.records = pre ++ r' :: post := by
  have hid : ∀ l : List Record, (∀ x ∈ l, x.client ≠ c) → l.map (fun x => if x.client = c then r' else x) = l :=
    fun l h => (List.map_congr_left fun x hx => if_neg (h x hx)).trans (List.map_id _)
  simp only [recordBecomes, State.withAst_ast, hl, List.map_append, List.map_cons, hc, if_true,
    hid pre fun x hx => hothers x (List.mem_append_left _ hx), hid post fun x hx => hothers x (List.mem_append_right _ hx)]

theorem mem_recordBecomes {c : Nat} {r r' x : Record} {s : State} (hn : (s.ast.records.map Record.client).Nodup)
    (h : findRecord c s = some r) :
    x ∈ (recordBecomes c r' s).ast.records ↔ x = r' ∨ (x ∈ s.ast.records ∧ x.client ≠ c) := by
  obtain ⟨pre, post, hl, hothers⟩ := findRecord_split hn h
  have hc := (findRecord_mem h).2
  rw [recordBecomes_split hl hc hothers, hl]
  simp only [List.mem_append, List.mem_cons] at hothers ⊢
  constructor
  · rintro (hx | rfl | hx)
    · exact .inr ⟨.inl hx, hothers x (.inl hx)⟩
    · exact .inl rfl
    · exact .inr ⟨.inr (.inr hx), hothers x (.inr hx)⟩
  · rintro (rfl | ⟨hx | rfl | hx, hne⟩)
    · exact .inr (.inl rfl)
    · exact .inl hx
    · exact absurd hc hne
    · exact .inr (.inr hx)

/-- A change of a record by a function is the change of the one record of its client. -/
theorem updateRecord_found {c : Nat} {r : Record} {s : State} (h : findRecord c s = some r)
    (hn : (s.ast.records.map Record.client).Nodup) (f : Record → Record) :
    updateRecord c f s = recordBecomes c (f r) s := by
  obtain ⟨-, rfl⟩ := findRecord_mem h
  exact updateRecord_eq h hn f

/-- A change of the record of a client that has none changes nothing. -/
theorem updateRecord_absent {c : Nat} {s : State} (h : findRecord c s = none) (f : Record → Record) :
    updateRecord c f s = s := by
  have hno : ∀ x ∈ s.ast.records, x.client ≠ c := by simpa [findRecord] using h
  have hid : s.ast.records.map (fun x => if x.client = c then f x else x) = s.ast.records :=
    (List.map_congr_left fun x hx => if_neg (hno x hx)).trans (List.map_id _)
  rw [updateRecord, hid]
  rfl

/-! ## The association table (R22, R44, R98) -/

/-- The bounds of the list of records are those of a list, of a capacity and of a node state. -/
theorem tableInv_of_records {s t : State} (hnode : t.cfl.node = s.cfl.node) (h : TableInv s)
    (hlen : t.ast.records.length ≤ s.ast.records.length)
    (hclients : (t.ast.records.map Record.client).Nodup) (hguests : t.guests ≤ t.capacity)
    (hrecords : ∀ r ∈ t.ast.records, r.subs.length ≤ 4 ∧ r.subs.Nodup ∧ r.badCodes ≤ 4) : TableInv t := by
  obtain ⟨hlimit, -, -, hstart, -⟩ := h
  refine ⟨hlen.trans hlimit, hclients, hguests, fun hn => ?_, hrecords⟩
  rw [hstart (hnode ▸ hn)] at hlen
  exact List.eq_nil_of_length_eq_zero (Nat.le_zero.1 hlen)

/-- `TableInv` speaks of the node state, the configuration and the records only. -/
theorem tableInv_congr {s t : State} (hcfl : t.cfl.node = s.cfl.node ∧ t.cfl.config = s.cfl.config)
    (hrecords : t.ast.records = s.ast.records) (hs : TableInv s) : TableInv t := by
  obtain ⟨hnode, hconfig⟩ := hcfl
  simpa only [TableInv, State.guests, State.capacity, hnode, hconfig, hrecords] using hs

/-- R22, R44, R98: a change of one record. -/
theorem tableInv_recordBecomes {c : Nat} {r r' : Record} {s : State} (hfind : findRecord c s = some r)
    (h : RecordKept s r r') (hs : TableInv s) : TableInv (recordBecomes c r' s) := by
  obtain ⟨-, hn, hguests, -, hrecords⟩ := id hs
  obtain ⟨hmem, hc⟩ := findRecord_mem hfind
  obtain ⟨pre, post, hl, hothers⟩ := findRecord_split hn hfind
  have hnew := recordBecomes_split (r' := r') hl hc hothers
  refine tableInv_of_records (s := s) rfl hs (by rw [hnew, hl]; simp) ?_ ?_ ?_
  · rw [hnew]
    rw [hl] at hn
    simpa [h.client] using hn
  · have hcap : (recordBecomes c r' s).capacity = s.capacity := rfl
    have hg := h.guest
    rw [hcap]
    simp only [State.guests, hnew, hl, List.countP_append, List.countP_cons, beq_iff_eq] at hguests hg ⊢
    by_cases hr' : r'.cls = .guest
    · rcases hg hr' with hr | hr
      · simpa [hr, hr'] using hguests
      · by_cases hr0 : r.cls = .guest <;> simp [hr', hr0] at hr hguests ⊢ <;> omega
    · simp only [hr', if_false]
      omega
  · intro x hx
    rcases (mem_recordBecomes hn hfind).1 hx with rfl | ⟨hx, -⟩
    · obtain ⟨hlen, hnd, hbad⟩ := hrecords r hmem
      exact ⟨(h.subs hlen hnd).1, (h.subs hlen hnd).2, h.badCodes hbad⟩
    · exact hrecords x hx

/-- R22: a new record. -/
theorem tableInv_added {r : Record} {s : State} (h : RecordNew s r) (hs : TableInv s) :
    TableInv (s.withAst { s.ast with records := s.ast.records ++ [r] }) := by
  obtain ⟨-, hn, hguests, -, hrecords⟩ := hs
  have habsent : ∀ x ∈ s.ast.records, x.client ≠ r.client := by simpa [findRecord] using h.absent
  have hroom := h.room
  refine ⟨by simp; omega, ?_, ?_, fun hnode => ?_, fun x hx => ?_⟩
  · simpa [List.nodup_append, hn] using fun x hx => habsent x hx
  · have hg := h.guest
    simp only [State.guests, State.capacity, State.withAst_ast, State.withAst_cfl, List.countP_append] at hguests hg ⊢
    by_cases hcls : r.cls = .guest
    · have := hg hcls
      simp [hcls]
      omega
    · simpa [hcls] using hguests
  · simp [h.joined] at hnode
  · rcases List.mem_append.1 hx with hx | hx
    · exact hrecords x hx
    · rw [List.mem_singleton.1 hx, h.subs, h.badCodes]
      simp

theorem tableInv_filtered {s : State} (p : Record → Bool) (hs : TableInv s) :
    TableInv (s.withAst { s.ast with records := s.ast.records.filter p }) := by
  obtain ⟨-, hn, hguests, -, hrecords⟩ := id hs
  refine tableInv_of_records (s := s) rfl hs (List.length_filter_le _ _) (hn.sublist (List.filter_sublist.map _)) ?_
    fun x hx => hrecords x (List.mem_of_mem_filter hx)
  exact le_trans (List.filter_sublist.countP_le) hguests

theorem tableInv_streamLeft {s : State} (stream : Nat) (hs : TableInv s) :
    TableInv (s.withAst { s.ast with
      records := s.ast.records.map fun r => { r with subs := r.subs.filter fun x => x ≠ stream } }) := by
  obtain ⟨-, hn, hguests, -, hrecords⟩ := id hs
  refine tableInv_of_records (s := s) rfl hs (by simp) (by simpa [Function.comp_def] using hn) ?_ fun x hx => ?_
  · simpa [State.guests, State.capacity, List.countP_map, Function.comp_def] using hguests
  · obtain ⟨r, hr, rfl⟩ := List.mem_map.1 hx
    obtain ⟨hlen, hnd, hbad⟩ := hrecords r hr
    exact ⟨(List.length_filter_le _ _).trans hlen, hnd.filter _, hbad⟩

end Sys2Proof.Machine
end

section
/-! R84, R40: what a demotion and a write of a seat do to the tables; every move keeps the bounds of the association table (R22, R44, R98). -/
namespace Sys2Proof.Machine

/-- R40: a demotion leaves a CLAIMANT. -/
theorem demotedRecord_kept (s : State) (r : Record) : RecordKept s r (demotedRecord r) where
  client := rfl
  subs h1 h2 := ⟨h1, h2⟩
  badCodes h := h
  guest h := by simp [demotedRecord] at h
  home h := by simp [demotedRecord] at h

theorem demotedRecord_timer (s : State) (r : Record) : TimerKept s r (demotedRecord r) := by
  unfold TimerKept demotedRecord
  split
  · exact .inr (.inl rfl)
  · exact .inr (.inr (.inr ⟨rfl, .inl rfl⟩))

/-- R40: a demotion is the change of the one record, or none. -/
theorem demote_cases (client q : Nat) (s : State) :
    (demote client q s = s ∧ ∀ r, findRecord client s = some r → ¬ (r.cls = .home ∧ r.binding.map Binding.seat = some q)) ∨
      ∃ r, findRecord client s = some r ∧ (r.cls = .home ∧ r.binding.map Binding.seat = some q) ∧
        demote client q s = recompute (updateRecord client demotedRecord s) := by
  unfold demote
  cases h : findRecord client s with
  | none => exact .inl ⟨rfl, fun r hr => by simp at hr⟩
  | some r =>
    dsimp only
    split
    · next hb => exact .inr ⟨r, rfl, hb, rfl⟩
    · next hb => exact .inl ⟨rfl, fun x hx => Option.some.inj hx ▸ hb⟩

/-- R84: the write of an entry, and the demotion of the client whose check-in it ends. -/
theorem replaceSeat_cases (c : NodeConfig) (i : Nat) (e : SeatEntry) (s : State) :
    (replaceSeat c i e s = writeSeat i e s ∧
      ∀ old, s.ens.seats[i]? = some old → ∀ t holder time, old.standing ≠ .checkedIn t holder time) ∨
    ∃ old t holder time, s.ens.seats[i]? = some old ∧ old.standing = .checkedIn t holder time ∧
      replaceSeat c i e s = demote holder (c.firstSeat + i) (writeSeat i e s) := by
  unfold replaceSeat
  cases hold : s.ens.seats[i]? with
  | none => exact .inl ⟨rfl, fun old h => by simp at h⟩
  | some old =>
    cases hst : old.standing with
    | checkedIn t holder time => exact .inr ⟨old, t, holder, time, rfl, hst, by simp [hst]⟩
    | _ => exact .inl ⟨by simp [hst], fun x hx => by cases hx; simp [hst]⟩

/-- A demotion is a change of a record as any other, but for the ground of a HOME record. -/
theorem demote_keeps {P : State → Prop} (client q : Nat) {s : State} (hs : P s)
    (hsame : ∀ x y : State, y.tables = x.tables → P x → P y)
    (hchanged : ∀ r, findRecord client s = some r → P (updateRecord client demotedRecord s)) : P (demote client q s) := by
  rcases demote_cases client q s with ⟨h, -⟩ | ⟨r, hr, -, h⟩ <;> rw [h]
  · exact hs
  · exact hsame (updateRecord client demotedRecord s) _ (by simp [State.tables]) (hchanged r hr)

/-- A demotion leaves the configuration and the seat entries as they are. -/
theorem demote_frame (client q : Nat) (s : State) : (demote client q s).cfl = s.cfl ∧ (demote client q s).ens = s.ens := by
  rcases demote_cases client q s with ⟨h, -⟩ | ⟨r, -, -, h⟩ <;> rw [h] <;> simp

theorem replaceSeat_frame (c : NodeConfig) (i : Nat) (e : SeatEntry) (s : State) :
    (replaceSeat c i e s).cfl = s.cfl ∧ (replaceSeat c i e s).ens = (writeSeat i e s).ens := by
  rcases replaceSeat_cases c i e s with ⟨h, -⟩ | ⟨old, t, holder, time, -, -, h⟩ <;> rw [h]
  · exact ⟨rfl, rfl⟩
  · exact demote_frame _ _ _

@[simp] theorem writeSeat_ast (i : Nat) (e : SeatEntry) (s : State) : (writeSeat i e s).ast = s.ast := rfl
@[simp] theorem writeSeat_cfl (i : Nat) (e : SeatEntry) (s : State) : (writeSeat i e s).cfl = s.cfl := rfl
@[simp] theorem writeSeat_hoe (i : Nat) (e : SeatEntry) (s : State) : (writeSeat i e s).hoe = s.hoe := rfl

theorem tableInv_same {s t : State} (h : t.tables = s.tables) (hs : TableInv s) : TableInv t := by
  obtain ⟨hnode, hconfig, hrecords, -, -⟩ := tables_eq_iff.1 h
  exact tableInv_congr ⟨hnode, hconfig⟩ hrecords hs

/-- R40, R84: a written entry and a demotion leave the bounds as they are. -/
theorem tableInv_replaceSeat (c : NodeConfig) (i : Nat) (e : SeatEntry) {s : State} (hs : TableInv s) :
    TableInv (replaceSeat c i e s) := by
  rcases replaceSeat_cases c i e s with ⟨h, -⟩ | ⟨old, t, holder, time, -, -, h⟩ <;> rw [h]
  · exact hs
  · refine demote_keeps (P := TableInv) holder _ hs (fun _ _ => tableInv_same) fun r hr => ?_
    obtain ⟨-, hn, -⟩ := id hs
    rw [updateRecord_found hr hn]
    exact tableInv_recordBecomes hr (demotedRecord_kept _ r) hs

/-- R22, R44, R46, R98: every move keeps the bounds of the association table. -/
theorem Move.tableInv {s t : State} (h : Move s t) (hs : TableInv s) : TableInv t := by
  obtain ⟨-, hn, -, hstart, -⟩ := id hs
  cases h with
  | same h => exact tableInv_same h hs
  | entries f h => exact hs
  | changed f hmem hkept _ _ =>
    have hfind := findRecord_of_mem hn hmem
    rw [updateRecord_found hfind hn]
    exact tableInv_recordBecomes hfind hkept hs
  | @ended c r f hmem hkept _ _ =>
    have hfind := findRecord_of_mem hn hmem
    have hd : findRecord c (dropInflight c s) = some r := by simpa [findRecord] using hfind
    rw [updateRecord_found hd (by simpa using hn)]
    exact tableInv_congr (s := recordBecomes c (f r) s) (by simp [recordBecomes]) (by simp [recordBecomes])
      (tableInv_recordBecomes hfind hkept hs)
  | begun f e hmem hkept _ _ _ =>
    have hfind := findRecord_of_mem hn hmem
    rw [updateRecord_found hfind hn]
    exact tableInv_recordBecomes hfind hkept hs
  | added r h _ => exact tableInv_added h hs
  | pulling r e h _ => exact tableInv_added h hs
  | removed c => exact tableInv_congr (by simp) (by rw [dropInflight_ast]) (tableInv_filtered _ hs)
  | left => exact tableInv_filtered _ hs
  | streamLeft stream => exact tableInv_streamLeft stream hs
  | seatKept e' _ _ _ => exact hs
  | seatReplaced c i e _ _ => exact tableInv_replaceSeat c i e hs
  | ticketMoved c e _ _ _ _ => exact tableInv_replaceSeat c _ e (tableInv_replaceSeat c _ emptySeat hs)
  | configured raw hnode =>
    have hempty := hstart (.inl hnode)
    refine ⟨?_, ?_, ?_, ?_, ?_⟩ <;> simp [listeningState, hempty, State.guests]
  | node v hconfig hnode =>
    obtain ⟨hlimit, -, hguests, -, hrecords⟩ := hs
    refine ⟨hlimit, hn, ?_, fun hv => hstart (.inl ?_), hrecords⟩
    · simpa [State.guests, State.capacity, hconfig] using hguests
    · rcases hnode with h | h | ⟨-, h⟩
      · simp [h] at hv
      · simp [h] at hv
      · exact h
  | reset h => exact tableInv_same (s := State.reset) h (by decide)

end Sys2Proof.Machine
end

section
/-! R25, R47: every move keeps one in-flight entry for each PULLING and OFFERING record. -/
namespace Sys2Proof.Machine

/-- `HandoffInv` speaks of the records and the in-flight entries only. -/
theorem handoffInv_congr {s t : State} (hrecords : t.ast.records = s.ast.records) (hinflight : t.hoe.inflight = s.hoe.inflight)
    (hs : HandoffInv s) : HandoffInv t := by
  simpa only [HandoffInv, hrecords, hinflight] using hs

theorem handoffInv_same {s t : State} (h : t.tables = s.tables) (hs : HandoffInv s) : HandoffInv t := by
  obtain ⟨-, -, hrecords, hinflight, -⟩ := tables_eq_iff.1 h
  exact handoffInv_congr hrecords hinflight hs

/-- R25: what `HandoffInv` says of one record. -/
structure RecordSound (s : State) (r : Record) : Prop where
  entry : r.linked → ∃ e ∈ s.hoe.inflight, e.client = r.client
  steer : r.timer = some .steer → r.state = .steered
  expectation : r.timer = some .expectation → r.state = .expected
  peer : r.state = .expected → r.peer.isSome

/-- R25: a record with a steer hold is STEERED. -/
theorem RecordSound.unlinked_of_steer {r : Record} {s : State} (h : RecordSound s r) (ht : r.timer = some .steer) :
    ¬ r.linked := by
  simp [Record.linked, h.steer ht]

theorem handoffInv_iff (s : State) : HandoffInv s ↔ (s.hoe.inflight.map Inflight.client).Nodup ∧
    (∀ e ∈ s.hoe.inflight, ∃ r ∈ s.ast.records, EntryOf e r) ∧ ∀ r ∈ s.ast.records, RecordSound s r := by
  refine and_congr_right fun _ => and_congr_right fun _ => forall₂_congr fun r _ => ?_
  exact ⟨fun ⟨h1, h2, h3, h4⟩ => ⟨h1, h2, h3, h4⟩, fun ⟨h1, h2, h3, h4⟩ => ⟨h1, h2, h3, h4⟩⟩

theorem EntryOf.linked {e : Inflight} {r : Record} (h : EntryOf e r) : r.linked := by
  obtain ⟨-, -, hst⟩ := h
  rw [Record.linked, hst]
  split <;> simp

/-- R22, R47: an entry of a record's client is the record's own. -/
theorem entryOf_of_client {e : Inflight} {r : Record} {s : State} (hn : (s.ast.records.map Record.client).Nodup)
    (hs : HandoffInv s) (he : e ∈ s.hoe.inflight) (hr : r ∈ s.ast.records) (hc : e.client = r.client) : EntryOf e r := by
  obtain ⟨-, hentries, -⟩ := (handoffInv_iff s).1 hs
  obtain ⟨x, hx, hex⟩ := hentries e he
  rwa [List.inj_on_of_nodup_map hn hr hx (hc.symm.trans hex.1.symm)]

/-- R47: a record that is neither PULLING nor OFFERING has no entry. -/
theorem no_entry_of_unlinked {c : Nat} {r : Record} {s : State} (hn : (s.ast.records.map Record.client).Nodup)
    (hs : HandoffInv s) (hfind : findRecord c s = some r) (hfree : ¬ r.linked) : ∀ e ∈ s.hoe.inflight, e.client ≠ c := by
  intro e he hc
  obtain ⟨hr, hrc⟩ := findRecord_mem hfind
  exact hfree (entryOf_of_client hn hs he hr (hc.trans hrc.symm)).linked

theorem no_entry_of_absent {c : Nat} {s : State} (hs : HandoffInv s) (h : findRecord c s = none) :
    ∀ e ∈ s.hoe.inflight, e.client ≠ c := by
  intro e he hc
  obtain ⟨-, hentries, -⟩ := (handoffInv_iff s).1 hs
  obtain ⟨x, hx, hex, -⟩ := hentries e he
  have hno : ∀ x ∈ s.ast.records, x.client ≠ c := by simpa [findRecord] using h
  exact hno x hx (hex.trans hc)

/-- R25: a record's timer fits its state after any change. -/
theorem TimerKept.fits {r r' : Record} {s : State} (h : TimerKept s r r') (hn : (s.ast.records.map Record.client).Nodup)
    (hs : HandoffInv s) (hr : r ∈ s.ast.records) :
    (r'.timer = some .steer → r'.state = .steered) ∧ (r'.timer = some .expectation → r'.state = .expected) := by
  obtain ⟨-, -, hrecords⟩ := (handoffInv_iff s).1 hs
  have hsound := hrecords r hr
  rcases h with h | h | ⟨h, hst⟩ | ⟨h, hst | ⟨hst, hex⟩ | ⟨e, he, hc⟩⟩
  · simp [h]
  · simp [h]
  · simp [h, hst]
  · rw [h, hst]
    exact ⟨hsound.steer, hsound.expectation⟩
  · rw [h]
    exact ⟨fun ht => absurd (hsound.steer ht) hst, fun ht => absurd (hsound.expectation ht) hex⟩
  · have hlinked := (entryOf_of_client hn hs he hr hc).linked
    rw [h]
    refine ⟨fun ht => ?_, fun ht => ?_⟩
    · simp [Record.linked, hsound.steer ht] at hlinked
    · simp [Record.linked, hsound.expectation ht] at hlinked

/-- R25: a change of one record, the entries of the other clients staying as they are. -/
theorem handoffInv_recordBecomes {c : Nat} {r r' : Record} {s : State} {l : List Inflight}
    (hn : (s.ast.records.map Record.client).Nodup) (hs : HandoffInv s) (hfind : findRecord c s = some r)
    (hclient : r'.client = r.client) (htimer : TimerKept s r r')
    (hothers : ∀ e, e.client ≠ c → (e ∈ l ↔ e ∈ s.hoe.inflight)) (hnodup : (l.map Inflight.client).Nodup)
    (hown : ∀ e ∈ l, e.client = c → EntryOf e r') (hlinked : r'.linked → ∃ e ∈ l, e.client = c)
    (hpeer : r'.state = .expected → r'.peer.isSome) :
    HandoffInv ((recordBecomes c r' s).withHoe { s.hoe with inflight := l }) := by
  obtain ⟨-, hentries, hrecords⟩ := (handoffInv_iff s).1 hs
  obtain ⟨hr, hc⟩ := findRecord_mem hfind
  obtain ⟨hsteer, hexpect⟩ := htimer.fits hn hs hr
  refine (handoffInv_iff _).2 ⟨hnodup, fun e he => ?_, fun x hx => ?_⟩
  · by_cases hec : e.client = c
    · exact ⟨r', (mem_recordBecomes hn hfind).2 (.inl rfl), hown e he hec⟩
    · obtain ⟨x, hx, hex⟩ := hentries e ((hothers e hec).1 he)
      exact ⟨x, (mem_recordBecomes hn hfind).2 (.inr ⟨hx, hex.1.trans_ne hec⟩), hex⟩
  · rcases (mem_recordBecomes hn hfind).1 hx with rfl | ⟨hx, hxc⟩
    · refine ⟨fun h => ?_, hsteer, hexpect, hpeer⟩
      rw [hclient, hc]
      exact hlinked h
    · have hsound := hrecords x hx
      refine ⟨fun h => ?_, hsound.steer, hsound.expectation, hsound.peer⟩
      obtain ⟨e, he, hex⟩ := hsound.entry h
      exact ⟨e, (hothers e (hex.trans_ne hxc)).2 he, hex⟩

/-- R25: a change that leaves the record PULLING or OFFERING as it was, or never touches such a record. -/
theorem handoffInv_changed {c : Nat} {r r' : Record} {s : State}
    (hn : (s.ast.records.map Record.client).Nodup) (hs : HandoffInv s) (hfind : findRecord c s = some r)
    (hclient : r'.client = r.client) (htimer : TimerKept s r r')
    (hstate : (r'.state = r.state ∧ r'.peer = r.peer) ∨ (¬ r.linked ∧ ¬ r'.linked ∧ r'.state ≠ .expected)) :
    HandoffInv (recordBecomes c r' s) := by
  obtain ⟨hnodup, -, hrecords⟩ := (handoffInv_iff s).1 hs
  obtain ⟨hr, hc⟩ := findRecord_mem hfind
  refine handoffInv_recordBecomes hn hs hfind hclient htimer (fun _ _ => Iff.rfl) hnodup (fun e he hec => ?_)
    (fun h => ?_) fun h => ?_
  · have hof := entryOf_of_client hn hs he hr (hec.trans hc.symm)
    rcases hstate with ⟨hst, hp⟩ | ⟨hfree, -⟩
    · exact ⟨hclient.trans hof.1, hp.trans hof.2.1, hst.trans hof.2.2⟩
    · exact absurd hof.linked hfree
  · rcases hstate with ⟨hst, -⟩ | ⟨-, hfree, -⟩
    · rw [Record.linked, hst] at h
      exact hc ▸ (hrecords r hr).entry h
    · exact absurd h hfree
  · rcases hstate with ⟨hst, hp⟩ | ⟨-, -, hne⟩
    · exact hp ▸ (hrecords r hr).peer (hst ▸ h)
    · exact absurd h hne

/-- R22, R47: a new record, with its entry where it begins PULLING. -/
theorem handoffInv_added {r : Record} {s : State} {l : List Inflight} (h : RecordNew s r) (hs : HandoffInv s)
    (hl : (l = s.hoe.inflight ∧ ¬ r.linked) ∨ ∃ e, l = s.hoe.inflight ++ [e] ∧ EntryOf e r) :
    HandoffInv ((s.withAst { s.ast with records := s.ast.records ++ [r] }).withHoe { s.hoe with inflight := l }) := by
  obtain ⟨hnodup, hentries, hrecords⟩ := (handoffInv_iff s).1 hs
  have hno := no_entry_of_absent hs h.absent
  have hmem : ∀ e ∈ s.hoe.inflight, e ∈ l := by rcases hl with ⟨rfl, -⟩ | ⟨e, rfl, -⟩ <;> simp +contextual
  refine (handoffInv_iff _).2 ⟨?_, fun e he => ?_, fun x hx => ?_⟩
  · rcases hl with ⟨rfl, -⟩ | ⟨e, rfl, hof⟩
    · exact hnodup
    · simpa [List.nodup_append, hnodup] using fun x hx => hof.1 ▸ hno x hx
  · have hold : e ∈ s.hoe.inflight → ∃ x ∈ s.ast.records ++ [r], EntryOf e x := fun he =>
      (hentries e he).imp fun x ⟨hx, hex⟩ => ⟨List.mem_append_left _ hx, hex⟩
    rcases hl with ⟨rfl, -⟩ | ⟨e', rfl, hof⟩
    · exact hold he
    · rcases List.mem_append.1 he with he | he
      · exact hold he
      · exact ⟨r, by simp, List.mem_singleton.1 he ▸ hof⟩
  · rcases List.mem_append.1 hx with hx | hx
    · have hsound := hrecords x hx
      exact ⟨fun hk => (hsound.entry hk).imp fun e ⟨he, hc⟩ => ⟨hmem e he, hc⟩, hsound.steer, hsound.expectation, hsound.peer⟩
    · rw [List.mem_singleton.1 hx]
      refine ⟨fun hk => ?_, fun ht => absurd ht h.steer, h.expectation, h.expected⟩
      rcases hl with ⟨-, hfree⟩ | ⟨e, rfl, hof⟩
      · exact absurd hk hfree
      · exact ⟨e, by simp, hof.1.symm⟩

/-- R37, R49: a client's record and its entry are gone. -/
theorem handoffInv_removed {s : State} (c : Nat) (hs : HandoffInv s) :
    HandoffInv ((s.withAst { s.ast with records := s.ast.records.filter fun x => x.client ≠ c }).withHoe
      { s.hoe with inflight := s.hoe.inflight.filter fun e => e.client ≠ c }) := by
  obtain ⟨hnodup, hentries, hrecords⟩ := (handoffInv_iff s).1 hs
  refine (handoffInv_iff _).2 ⟨hnodup.sublist (List.filter_sublist.map _), fun e he => ?_, fun x hx => ?_⟩
  · obtain ⟨he, hec⟩ := List.mem_filter.1 he
    obtain ⟨x, hx, hex⟩ := hentries e he
    refine ⟨x, List.mem_filter.2 ⟨hx, ?_⟩, hex⟩
    simpa [hex.1] using hec
  · obtain ⟨hx, hxc⟩ := List.mem_filter.1 hx
    have hsound := hrecords x hx
    refine ⟨fun h => ?_, hsound.steer, hsound.expectation, hsound.peer⟩
    obtain ⟨e, he, hec⟩ := hsound.entry h
    exact ⟨e, List.mem_filter.2 ⟨he, by simpa [hec] using hxc⟩, hec⟩

theorem handoffInv_streamLeft {s : State} (stream : Nat) (hs : HandoffInv s) :
    HandoffInv (s.withAst { s.ast with
      records := s.ast.records.map fun r => { r with subs := r.subs.filter fun x => x ≠ stream } }) := by
  obtain ⟨hnodup, hentries, hrecords⟩ := (handoffInv_iff s).1 hs
  refine (handoffInv_iff _).2 ⟨hnodup, fun e he => ?_, fun x hx => ?_⟩
  · obtain ⟨r, hr, her⟩ := hentries e he
    exact ⟨_, List.mem_map_of_mem hr, her⟩
  · obtain ⟨r, hr, rfl⟩ := List.mem_map.1 hx
    have hsound := hrecords r hr
    exact ⟨hsound.entry, hsound.steer, hsound.expectation, hsound.peer⟩

theorem handoffInv_entries {s : State} {f : Inflight → Inflight}
    (h : ∀ e, (f e).client = e.client ∧ (f e).kind = e.kind ∧ (f e).peer = e.peer) (hs : HandoffInv s) :
    HandoffInv (s.withHoe { s.hoe with inflight := s.hoe.inflight.map f }) := by
  obtain ⟨hnodup, hentries, hrecords⟩ := (handoffInv_iff s).1 hs
  refine (handoffInv_iff _).2 ⟨by simpa [Function.comp_def, h] using hnodup, fun e he => ?_, fun x hx => ?_⟩
  · obtain ⟨y, hy, rfl⟩ := List.mem_map.1 he
    obtain ⟨hc, hk, hp⟩ := h y
    obtain ⟨r, hr, hof⟩ := hentries y hy
    exact ⟨r, hr, by simpa only [EntryOf, hc, hk, hp] using hof⟩
  · have hsound := hrecords x hx
    refine ⟨fun hk => ?_, hsound.steer, hsound.expectation, hsound.peer⟩
    obtain ⟨e, he, hec⟩ := hsound.entry hk
    exact ⟨f e, List.mem_map_of_mem he, (h e).1.trans hec⟩

theorem handoffInv_replaceSeat (c : NodeConfig) (i : Nat) (e : SeatEntry) {s : State} (htable : TableInv s)
    (hs : HandoffInv s) : HandoffInv (replaceSeat c i e s) := by
  obtain ⟨-, hn, -⟩ := htable
  rcases replaceSeat_cases c i e s with ⟨h, -⟩ | ⟨old, t, holder, time, -, -, h⟩ <;> rw [h]
  · exact hs
  · refine demote_keeps (P := HandoffInv) holder _ hs (fun _ _ => handoffInv_same) fun r hr => ?_
    rw [updateRecord_found hr hn]
    exact handoffInv_changed (s := writeSeat i e s) hn hs hr rfl (demotedRecord_timer _ r) (.inl ⟨rfl, rfl⟩)

/-- R25, R47: every move keeps the entries of the PULLING and OFFERING records. -/
theorem Move.handoffInv {s t : State} (h : Move s t) (htable : TableInv s) (hs : HandoffInv s) : HandoffInv t := by
  obtain ⟨-, hn, -⟩ := id htable
  obtain ⟨hnodup, -, hrecords⟩ := (handoffInv_iff s).1 hs
  cases h with
  | same h => exact handoffInv_same h hs
  | entries f h => exact handoffInv_entries h hs
  | @changed c r f hmem hkept htimer hstate =>
    have hfind := findRecord_of_mem hn hmem
    rw [updateRecord_found hfind hn]
    exact handoffInv_changed hn hs hfind hkept.client htimer
      (hstate.imp_right fun ⟨hfree, hrest⟩ => ⟨hfree.elim id (hrecords r hmem.1).unlinked_of_steer, hrest⟩)
  | @ended c r f hmem hkept htimer hstate =>
    have hfind := findRecord_of_mem hn hmem
    have hd : findRecord c (dropInflight c s) = some r := by simpa only [findRecord, dropInflight_ast] using hfind
    rw [updateRecord_found hd (by simpa only [dropInflight_ast] using hn)]
    refine handoffInv_congr
      (s := (recordBecomes c (f r) s).withHoe { s.hoe with inflight := s.hoe.inflight.filter fun e => e.client ≠ c })
      (by simp only [recordBecomes, State.withAst_ast, dropInflight_ast, State.withHoe_ast])
      (by simp only [recordBecomes, State.withAst_hoe, dropInflight_list, State.withHoe_hoe]) ?_
    exact handoffInv_recordBecomes hn hs hfind hkept.client htimer
      (fun e he => by simp [he]) (hnodup.sublist (List.filter_sublist.map _))
      (fun e he hc => by simp [hc] at he) (fun h => absurd h hstate.1) (fun h => absurd h hstate.2)
  | @begun c r f e hmem hkept htimer hfree he =>
    have hfind := findRecord_of_mem hn hmem
    rw [updateRecord_found hfind hn]
    have hno := no_entry_of_unlinked hn hs hfind hfree
    have he := he (hrecords r hmem.1).peer
    have hec : e.client = c := he.1.symm.trans (hkept.client.trans (findRecord_mem hfind).2)
    refine handoffInv_recordBecomes (l := s.hoe.inflight ++ [e]) hn hs hfind hkept.client htimer (fun x hx => ?_) ?_
      (fun x hx hc => ?_) (fun _ => ⟨e, by simp, hec⟩) (fun h => ?_)
    · have hne : x ≠ e := fun h => hx (h ▸ hec)
      simp [hne]
    · simpa [List.nodup_append, hnodup, hec] using hno
    · rcases List.mem_append.1 hx with hx | hx
      · exact absurd hc (hno x hx)
      · exact List.mem_singleton.1 hx ▸ he
    · simpa [Record.linked, h] using he.linked
  | added r h hfree => exact handoffInv_added (l := s.hoe.inflight) h hs (.inl ⟨rfl, hfree⟩)
  | pulling r e h he => exact handoffInv_added h hs (.inr ⟨e, rfl, he⟩)
  | removed c =>
    exact handoffInv_congr (by rw [dropInflight_ast]; rfl) (by rw [dropInflight_list]; rfl) (handoffInv_removed c hs)
  | @left c r hmem hfree =>
    have hfind := findRecord_of_mem hn hmem
    have hno : s.hoe.inflight.filter (fun e => e.client ≠ c) = s.hoe.inflight :=
      List.filter_eq_self.2 fun e he => by simpa using no_entry_of_unlinked hn hs hfind hfree e he
    have hgone := handoffInv_removed c hs
    rw [hno] at hgone
    exact hgone
  | streamLeft stream => exact handoffInv_streamLeft stream hs
  | seatKept e' _ _ _ => exact hs
  | seatReplaced c i e _ _ => exact handoffInv_replaceSeat c i e htable hs
  | ticketMoved c e _ _ _ _ =>
    exact handoffInv_replaceSeat c _ e (tableInv_replaceSeat c _ _ htable) (handoffInv_replaceSeat c _ _ htable hs)
  | configured raw hnode => exact hs
  | node v hconfig hnode => exact hs
  | reset h => exact handoffInv_same (s := State.reset) h reset_handoffInv

end Sys2Proof.Machine
end

section
/-! R26, R84: every move keeps the ground of the HOME records. R76, R83: every move keeps a ticket number on one seat. -/
namespace Sys2Proof.Machine

/-! ## The seat block (R76, R93) -/

/-- R76: the index of a seat of the block. -/
theorem seatIndex_eq_some {c : NodeConfig} {q i : Nat} {s : State} (hc : s.cfl.config = some c) :
    seatIndex q s = some i ↔ c.firstSeat ≤ q ∧ q < c.firstSeat + c.seatCount ∧ i = q - c.firstSeat := by
  simp only [seatIndex, hc]
  split
  · next h => simp [h.1, h.2, eq_comm]
  · next h => simp only [reduceCtorEq, false_iff]; exact fun hi => h ⟨hi.1, hi.2.1⟩

/-- R76: the entry of a seat of the block. -/
theorem seatEntry_eq_some {q : Nat} {e : SeatEntry} {s : State} :
    seatEntry q s = some e ↔ ∃ i, seatIndex q s = some i ∧ s.ens.seats[i]? = some e := by
  simp [seatEntry, Option.bind_eq_some_iff]

/-- R93: the seat is CHECKED_IN by the client, by its entry. -/
theorem checkedInBy_iff {client q : Nat} {s : State} : checkedInBy client q s = true ↔
    ∃ i e, seatIndex q s = some i ∧ s.ens.seats[i]? = some e ∧ ∃ t time, e.standing = .checkedIn t client time := by
  constructor
  · intro h
    cases hq : seatEntry q s with
    | none => simp [checkedInBy, hq] at h
    | some e =>
      obtain ⟨i, hi, he⟩ := seatEntry_eq_some.1 hq
      cases hst : e.standing with
      | checkedIn t c time =>
        have hc : c = client := by simpa [checkedInBy, hq, hst] using h
        exact ⟨i, e, hi, he, t, time, hst.trans (hc ▸ rfl)⟩
      | _ => simp [checkedInBy, hq, hst] at h
  · rintro ⟨i, e, hi, he, t, time, hst⟩
    simp [checkedInBy, seatEntry_eq_some.2 ⟨i, hi, he⟩, hst]

/-- The questions of the seats depend on the configuration and the entries only. -/
theorem checkedInBy_congr {s t : State} (hc : t.cfl.config = s.cfl.config) (hs : t.ens.seats = s.ens.seats) (client q : Nat) :
    checkedInBy client q t = checkedInBy client q s := by
  simp only [checkedInBy, seatEntry, seatIndex, hc, hs]

/-- R93: a written entry leaves the check-ins on the other seats, and its own where it keeps the standing. -/
theorem checkedInBy_writeSeat {client q i : Nat} {e' : SeatEntry} {s : State} (h : checkedInBy client q s = true)
    (hkeep : ∀ e t time, seatIndex q s = some i → s.ens.seats[i]? = some e → e.standing = .checkedIn t client time →
      e'.standing = e.standing) : checkedInBy client q (writeSeat i e' s) = true := by
  obtain ⟨j, e, hj, he, t, time, hst⟩ := checkedInBy_iff.1 h
  have hlt : j < s.ens.seats.length := (List.getElem?_eq_some_iff.1 he).1
  by_cases hij : i = j
  · subst hij
    refine checkedInBy_iff.2 ⟨i, e', hj, ?_, t, time, (hkeep e t time hj he hst).trans hst⟩
    simp [writeSeat, hlt]
  · exact checkedInBy_iff.2 ⟨j, e, hj, by simpa [writeSeat, List.getElem?_set_ne hij] using he, t, time, hst⟩

/-! ## The ground of a HOME record (R26) -/

/-- R26: what `HomeInv` says of one record. -/
def Grounded (s : State) (r : Record) : Prop :=
  r.cls = .home → ∃ b, r.binding = some b ∧ checkedInBy r.client b.seat s = true

/-- `HomeInv` speaks of the configuration, the records and the seat entries only. -/
theorem homeInv_congr {s t : State} (hconfig : t.cfl.config = s.cfl.config) (hrecords : t.ast.records = s.ast.records)
    (hseats : t.ens.seats = s.ens.seats) (hs : HomeInv s) : HomeInv t := by
  simpa only [HomeInv, hrecords, checkedInBy_congr hconfig hseats] using hs

theorem homeInv_same {s t : State} (h : t.tables = s.tables) (hs : HomeInv s) : HomeInv t := by
  obtain ⟨-, hconfig, hrecords, -, hseats⟩ := tables_eq_iff.1 h
  exact homeInv_congr hconfig hrecords hseats hs

theorem homeInv_filtered {s : State} (p : Record → Bool) (hs : HomeInv s) :
    HomeInv (s.withAst { s.ast with records := s.ast.records.filter p }) :=
  fun x hx => hs x (List.mem_of_mem_filter hx)

theorem homeInv_recordBecomes {c : Nat} {r r' : Record} {s : State} (hn : (s.ast.records.map Record.client).Nodup)
    (hfind : findRecord c s = some r) (hground : Grounded s r') (hs : ∀ x ∈ s.ast.records, x.client ≠ c → Grounded s x) :
    HomeInv (recordBecomes c r' s) := by
  intro x hx
  rcases (mem_recordBecomes hn hfind).1 hx with rfl | ⟨hx, hc⟩
  · exact hground
  · exact hs x hx hc

/-- R26: a kept record keeps its ground. -/
theorem RecordKept.grounded {r r' : Record} {s : State} (h : RecordKept s r r') (hr : Grounded s r) : Grounded s r' := by
  intro hhome
  rw [h.client]
  rcases h.home hhome with ⟨hcls, hb⟩ | hb
  · rw [hb]
    exact hr hcls
  · exact hb

theorem homeInv_kept {c : Nat} {r r' : Record} {s : State} (hn : (s.ast.records.map Record.client).Nodup)
    (hfind : findRecord c s = some r) (h : RecordKept s r r') (hs : HomeInv s) : HomeInv (recordBecomes c r' s) :=
  homeInv_recordBecomes hn hfind (h.grounded (hs r (findRecord_mem hfind).1)) fun x hx _ => hs x hx

theorem homeInv_added {r : Record} {s : State} (h : RecordNew s r) (hs : HomeInv s) :
    HomeInv (s.withAst { s.ast with records := s.ast.records ++ [r] }) := by
  intro x hx
  rcases List.mem_append.1 hx with hx | hx
  · exact hs x hx
  · exact List.mem_singleton.1 hx ▸ h.home

/-- R84: an entry that has lost its check-in takes the class of its client's record with it. -/
theorem homeInv_replaceSeat {c : NodeConfig} {i : Nat} {e : SeatEntry} {s : State} (hc : s.cfl.config = some c)
    (hn : (s.ast.records.map Record.client).Nodup) (hs : HomeInv s) : HomeInv (replaceSeat c i e s) := by
  rcases replaceSeat_cases c i e s with ⟨h, hno⟩ | ⟨old, t, holder, time, hold, hst, h⟩ <;> rw [h]
  · intro x hx hhome
    obtain ⟨b, hb, hin⟩ := hs x hx hhome
    exact ⟨b, hb, checkedInBy_writeSeat hin fun old t time _ hold hst => absurd hst (hno old hold _ _ _)⟩
  · have hother : ∀ x ∈ s.ast.records, x.client ≠ holder → Grounded (writeSeat i e s) x := by
      intro x hx hne hhome
      obtain ⟨b, hb, hin⟩ := hs x hx hhome
      refine ⟨b, hb, checkedInBy_writeSeat hin fun old' t' time' _ hold' hst' => ?_⟩
      rw [hold] at hold'
      cases hold'
      rw [hst] at hst'
      cases hst'
      exact absurd rfl hne
    rcases demote_cases holder (c.firstSeat + i) (writeSeat i e s) with ⟨hd, hkeep⟩ | ⟨r, hr, -, hd⟩ <;> rw [hd]
    · intro x hx
      by_cases hxc : x.client = holder
      · intro hhome
        obtain ⟨b, hb, hin⟩ := hs x hx hhome
        have hfind : findRecord holder (writeSeat i e s) = some x := findRecord_of_mem hn ⟨hx, hxc⟩
        refine ⟨b, hb, checkedInBy_writeSeat hin fun _ _ _ hindex _ _ => absurd ⟨hhome, ?_⟩ (hkeep x hfind)⟩
        obtain ⟨hle, -, hi⟩ := (seatIndex_eq_some hc).1 hindex
        rw [hb, Option.map_some, hi, Nat.add_sub_cancel' hle]
      · exact hother x hx hxc
    · refine homeInv_same (s := updateRecord holder demotedRecord (writeSeat i e s)) (by simp [State.tables]) ?_
      rw [updateRecord_found hr hn]
      exact homeInv_recordBecomes hn hr (fun h => by simp [demotedRecord] at h) hother

/-- R26, R84: every move keeps the ground of the HOME records. -/
theorem Move.homeInv {s t : State} (h : Move s t) (htable : TableInv s) (hs : HomeInv s) : HomeInv t := by
  obtain ⟨-, hn, -, hstart, -⟩ := id htable
  cases h with
  | same h => exact homeInv_same h hs
  | entries f h => exact hs
  | changed f hmem hkept _ _ =>
    have hfind := findRecord_of_mem hn hmem
    rw [updateRecord_found hfind hn]
    exact homeInv_kept hn hfind hkept hs
  | @ended c r f hmem hkept _ _ =>
    have hfind := findRecord_of_mem hn hmem
    have hd : findRecord c (dropInflight c s) = some r := by simpa only [findRecord, dropInflight_ast] using hfind
    rw [updateRecord_found hd (by simpa only [dropInflight_ast] using hn)]
    exact homeInv_congr (s := recordBecomes c (f r) s) (by simp [recordBecomes]) (by simp [recordBecomes])
      (by simp [recordBecomes]) (homeInv_kept hn hfind hkept hs)
  | begun f e hmem hkept _ _ _ =>
    have hfind := findRecord_of_mem hn hmem
    rw [updateRecord_found hfind hn]
    exact homeInv_kept hn hfind hkept hs
  | added r h _ => exact homeInv_added h hs
  | pulling r e h _ => exact homeInv_added h hs
  | removed c => exact homeInv_congr (by simp) (by rw [dropInflight_ast]) (by simp) (homeInv_filtered _ hs)
  | left => exact homeInv_filtered _ hs
  | streamLeft stream =>
    intro x hx
    obtain ⟨r, hr, rfl⟩ := List.mem_map.1 hx
    exact hs r hr
  | seatKept e' hseat _ hholder =>
    intro x hx hhome
    obtain ⟨b, hb, hin⟩ := hs x hx hhome
    refine ⟨b, hb, checkedInBy_writeSeat hin fun e t time _ he hst => ?_⟩
    rw [hseat] at he
    cases he
    exact hholder t _ time hst
  | seatReplaced c i e hc _ => exact homeInv_replaceSeat hc hn hs
  | ticketMoved c e hc _ _ _ =>
    obtain ⟨-, hn', -⟩ := tableInv_replaceSeat c _ emptySeat htable
    exact homeInv_replaceSeat (by rw [(replaceSeat_frame _ _ _ _).1]; exact hc) hn' (homeInv_replaceSeat hc hn hs)
  | configured raw hnode =>
    intro x hx
    have hx : x ∈ s.ast.records := hx
    simp [hstart (.inl hnode)] at hx
  | node v hconfig _ => exact homeInv_congr hconfig rfl rfl hs
  | reset h => exact homeInv_same (s := State.reset) h fun r hr => absurd hr List.not_mem_nil

/-! ## The ticket numbers (R76, R83) -/

theorem ticketInv_congr {s t : State} (h : t.ens.seats = s.ens.seats) (hs : TicketInv s) : TicketInv t := by
  simpa only [TicketInv, h] using hs

/-- R83: an entry is written whose number was its own, or is free. -/
theorem ticketInv_writeSeat {i : Nat} {e : SeatEntry} {s : State} (hfree : NumberFree s i e) (hs : TicketInv s) :
    TicketInv (writeSeat i e s) := by
  have hold : ∀ j x n, s.ens.seats[j]? = some x → x.standing.ticketNumber = some n → e.standing.ticketNumber = some n →
      i = j := by
    intro j x n hx hxn hen
    by_contra hne
    rcases hfree n hen with hown | hnone
    · obtain ⟨y, hy, hyn⟩ := Option.bind_eq_some_iff.1 hown
      exact hne (hs i j y x n hy hx hyn hxn)
    · exact hnone j (List.getElem?_eq_some_iff.1 hx).1 (Ne.symm hne) (by simp [hx, hxn])
  intro j k a b n ha hb han hbn
  simp only [writeSeat, State.withEns_ens, List.getElem?_set] at ha hb
  split_ifs at ha hb
  · exact Eq.trans (Eq.symm ‹i = j›) ‹i = k›
  · cases ha
    exact Eq.trans (Eq.symm ‹i = j›) (hold k b n hb hbn han)
  · cases hb
    exact (hold j a n ha han hbn).symm.trans ‹i = k›
  · exact hs j k a b n ha hb han hbn

theorem ticketInv_replaceSeat {c : NodeConfig} {i : Nat} {e : SeatEntry} {s : State} (hfree : NumberFree s i e)
    (hs : TicketInv s) : TicketInv (replaceSeat c i e s) :=
  ticketInv_congr (congrArg Ens.seats (replaceSeat_frame c i e s).2) (ticketInv_writeSeat hfree hs)

theorem numberFree_empty (s : State) (i : Nat) : NumberFree s i emptySeat := fun n h => by
  simp [emptySeat, Standing.ticketNumber] at h

/-- R83: a ticket number that has left its seat is on no other. -/
theorem numberFree_released {c : NodeConfig} {i j n : Nat} {e : SeatEntry} {s : State} (hs : TicketInv s)
    (hfrom : ((s.ens.seats[j]?).bind fun x => x.standing.ticketNumber) = some n) (hto : e.standing.ticketNumber = some n) :
    NumberFree (replaceSeat c j emptySeat s) i e := by
  obtain ⟨x, hx, hxn⟩ := Option.bind_eq_some_iff.1 hfrom
  intro m hm
  cases hto.symm.trans hm
  refine .inr fun k _ _ hk => ?_
  obtain ⟨y, hy, hyn⟩ := Option.bind_eq_some_iff.1 hk
  rw [(replaceSeat_frame c j emptySeat s).2] at hy
  simp only [writeSeat, State.withEns_ens, List.getElem?_set] at hy
  split_ifs at hy with hjk
  · cases hy
    simp [emptySeat, Standing.ticketNumber] at hyn
  · exact hjk (hs j k x y n hx hy hxn hyn)

/-- R76, R83: every move keeps a ticket number on one seat. -/
theorem Move.ticketInv {s t : State} (h : Move s t) (hs : TicketInv s) : TicketInv t := by
  cases h with
  | same h =>
    obtain ⟨-, -, -, -, hseats⟩ := tables_eq_iff.1 h
    exact ticketInv_congr hseats hs
  | ended | removed => exact ticketInv_congr (by simp) hs
  | entries | changed | begun | added | pulling | left | streamLeft | node => exact hs
  | @seatKept i e e' hseat hnumber _ =>
    exact ticketInv_writeSeat (fun n hn => .inl (by simpa [hseat] using hnumber.symm.trans hn)) hs
  | seatReplaced c i e _ hfree => exact ticketInv_replaceSeat hfree hs
  | ticketMoved c e _ _ hfrom hto =>
    exact ticketInv_replaceSeat (numberFree_released hs hfrom hto) (ticketInv_replaceSeat (numberFree_empty s _) hs)
  | configured raw _ =>
    intro i j a b n ha _ han
    have hempty : a = emptySeat := List.eq_of_mem_replicate (List.mem_of_getElem? ha)
    simp [hempty, emptySeat, Standing.ticketNumber] at han
  | reset h =>
    obtain ⟨-, -, -, -, hseats⟩ := tables_eq_iff.1 h
    exact ticketInv_congr hseats reset_ticketInv

/-! ## Runs of moves -/

theorem Moves.tableInv {s t : State} (h : Moves s t) (hs : TableInv s) : TableInv t := by
  induction h with
  | refl => exact hs
  | tail _ h ih => exact h.tableInv ih

theorem Moves.handoffInv {s t : State} (h : Moves s t) (htable : TableInv s) (hs : HandoffInv s) : HandoffInv t := by
  induction h with
  | refl => exact hs
  | tail hp h ih => exact h.handoffInv (Moves.tableInv hp htable) ih

theorem Moves.homeInv {s t : State} (h : Moves s t) (htable : TableInv s) (hs : HomeInv s) : HomeInv t := by
  induction h with
  | refl => exact hs
  | tail hp h ih => exact h.homeInv (Moves.tableInv hp htable) ih

theorem Moves.ticketInv {s t : State} (h : Moves s t) (hs : TicketInv s) : TicketInv t := by
  induction h with
  | refl => exact hs
  | tail _ h ih => exact h.ticketInv ih

end Sys2Proof.Machine
end

section
/-! Lists without repeats (R32, R44) -/
namespace Sys2Proof.Machine

/-- R32: an entry that repeats an earlier one is left out. -/
theorem distinct_append (l : List Nat) (a : Nat) :
    distinct (l ++ [a]) = if a ∈ distinct l then distinct l else distinct l ++ [a] := by
  rw [distinct, List.foldl_append]
  rfl

theorem mem_distinct (l : List Nat) : ∀ a, a ∈ distinct l ↔ a ∈ l := by
  induction l using List.reverseRecOn with
  | nil => simp [distinct]
  | append_singleton l b ih =>
    intro a
    rw [distinct_append]
    split
    · next hb => simpa [ih] using fun h => h ▸ (ih b).1 hb
    · simp [ih]

theorem distinct_nodup (l : List Nat) : (distinct l).Nodup := by
  induction l using List.reverseRecOn with
  | nil => simp [distinct]
  | append_singleton l b ih =>
    rw [distinct_append]
    split
    · exact ih
    · next hb =>
      simpa [List.nodup_append, ih] using fun a ha => ne_of_mem_of_not_mem ha hb

theorem distinct_sublist (l : List Nat) : (distinct l).Sublist l := by
  induction l using List.reverseRecOn with
  | nil => simp [distinct]
  | append_singleton l b ih =>
    rw [distinct_append]
    split
    · exact ih.trans (List.sublist_append_left _ _)
    · exact ih.append (List.Sublist.refl _)

/-- R32: what a longer list has more than its beginning comes behind. -/
theorem distinct_prefix (l m : List Nat) : distinct l <+: distinct (l ++ m) := by
  induction m using List.reverseRecOn with
  | nil => simp
  | append_singleton m b ih =>
    rw [← List.append_assoc, distinct_append]
    split
    · exact ih
    · exact ih.trans (List.prefix_append _ _)

end Sys2Proof.Machine
end

section
/-! The moves that the shared operations make, and those of the association table and of the handoffs. -/
namespace Sys2Proof.Machine

/-! ## What leaves the tables as they are -/

@[simp] theorem raise_tables (k : NoticeKind) (s : State) : (raise k s).tables = s.tables := rfl
@[simp] theorem queueFrame_tables (d : Nat) (b : OutFrame) (s : State) : (queueFrame d b s).tables = s.tables := rfl
@[simp] theorem withdrawFrame_tables (t : Nat) (s : State) : (withdrawFrame t s).tables = s.tables := rfl
@[simp] theorem placeOnLane_tables (r : OutRecord) (s : State) : (placeOnLane r s).tables = s.tables := rfl
@[simp] theorem placeOnSlotLane_tables (r : SlotOut) (s : State) : (placeOnSlotLane r s).tables = s.tables := rfl
@[simp] theorem popRequest_tables (s : State) : (popRequest s).tables = s.tables := rfl
@[simp] theorem updateStream_tables (i : Nat) (f : Stream → Stream) (s : State) : (updateStream i f s).tables = s.tables := rfl
@[simp] theorem gainSubscriber_tables (i : Nat) (s : State) : (gainSubscriber i s).tables = s.tables := rfl
@[simp] theorem loseSubscriber_tables (i : Nat) (s : State) : (loseSubscriber i s).tables = s.tables := rfl
@[simp] theorem updateSegment_tables (i q : Nat) (f : SegmentRecord → SegmentRecord) (s : State) :
    (updateSegment i q f s).tables = s.tables := rfl
@[simp] theorem countSteerFailure_tables (s : State) : (countSteerFailure s).tables = s.tables := rfl
@[simp] theorem hoePlace_tables (r : OutRecord) (s : State) : (hoePlace r s).tables = s.tables := by
  unfold hoePlace; split <;> rfl
@[simp] theorem ckuPlace_tables (r : OutRecord) (s : State) : (ckuPlace r s).tables = s.tables := by
  unfold ckuPlace; split <;> rfl
@[simp] theorem astPlace_tables (r : OutRecord) (s : State) : (astPlace r s).tables = s.tables := by
  unfold astPlace; split <;> rfl
@[simp] theorem queueAdvert_tables (s : State) : (queueAdvert s).tables = s.tables := by simp [State.tables]
@[simp] theorem recompute_tables (s : State) : (recompute s).tables = s.tables := by simp [State.tables]
@[simp] theorem dropClaim_tables (c : Nat) (s : State) : (dropClaim c s).tables = s.tables := by simp [State.tables]
@[simp] theorem loseAll_tables (l : List Nat) (s : State) : (loseAll l s).tables = s.tables := by simp [State.tables]
@[simp] theorem withPrm_tables (s : State) (v : Prm) : (s.withPrm v).tables = s.tables := rfl
@[simp] theorem withNbt_tables (s : State) (v : List Neighbour) : (s.withNbt v).tables = s.tables := rfl
@[simp] theorem withCku_tables (s : State) (v : Cku) : (s.withCku v).tables = s.tables := rfl
@[simp] theorem withRpc_tables (s : State) (v : Rpc) : (s.withRpc v).tables = s.tables := rfl
@[simp] theorem withSls_tables (s : State) (v : Sls) : (s.withSls v).tables = s.tables := rfl
@[simp] theorem withSck_tables (s : State) (v : Sck) : (s.withSck v).tables = s.tables := rfl
@[simp] theorem withRbc_tables (s : State) (v : Rbc) : (s.withRbc v).tables = s.tables := rfl
@[simp] theorem withRsl_tables (s : State) (v : Rsl) : (s.withRsl v).tables = s.tables := rfl
@[simp] theorem withNtu_tables (s : State) (v : Ntu) : (s.withNtu v).tables = s.tables := rfl
@[simp] theorem withFree_tables (s : State) (v : Nat) : (s.withFree v).tables = s.tables := rfl
@[simp] theorem withPending_tables (s : State) (v : List Instr) : (s.withPending v).tables = s.tables := rfl

/-- A change of the tables is the same from any state with the same tables. -/
theorem updateRecord_tables {c : Nat} {f : Record → Record} {s t : State} (h : t.tables = s.tables) :
    (updateRecord c f t).tables = (updateRecord c f s).tables := by
  obtain ⟨hnode, hconfig, hrecords, hinflight, hseats⟩ := tables_eq_iff.1 h
  simp [State.tables, updateRecord, hnode, hconfig, hrecords, hinflight, hseats]

theorem dropInflight_tables {c : Nat} {s t : State} (h : t.tables = s.tables) :
    (dropInflight c t).tables = (dropInflight c s).tables := by
  obtain ⟨hnode, hconfig, hrecords, hinflight, hseats⟩ := tables_eq_iff.1 h
  simp [State.tables, dropInflight_list, hnode, hconfig, hrecords, hinflight, hseats]

theorem addInflight_tables {e : Inflight} {s t : State} (h : t.tables = s.tables) :
    (addInflight e t).tables = (addInflight e s).tables := by
  obtain ⟨hnode, hconfig, hrecords, hinflight, hseats⟩ := tables_eq_iff.1 h
  simp [State.tables, addInflight, hnode, hconfig, hrecords, hinflight, hseats]

theorem Moves.same {s t : State} (h : t.tables = s.tables) : Moves s t := .single (.same h)

/-- A run of moves may end with what leaves the tables as they are. -/
theorem Moves.andSame {s t u : State} (h : Moves s t) (hu : u.tables = t.tables) : Moves s u := h.tail (.same hu)

/-- And it may begin with it. -/
theorem Moves.behindSame {s t u : State} (hu : Moves t u) (h : t.tables = s.tables) : Moves s u := hu.head (.same h)

/-! ## Changes of one record -/

/-- A changed record is found again. -/
theorem findRecord_updateRecord {c : Nat} {r : Record} {s : State} {f : Record → Record} (h : findRecord c s = some r)
    (hf : ∀ x, (f x).client = x.client) : findRecord c (updateRecord c f s) = some (f r) := by
  have htest : ((fun x : Record => x.client == c) ∘ fun x => if x.client = c then f x else x) = fun x => x.client == c := by
    funext x
    by_cases hx : x.client = c <;> simp [hx, hf]
  have hfind : s.ast.records.find? (fun x => x.client == c) = some r := h
  simp only [findRecord, updateRecord, State.withAst_ast, List.find?_map, htest, hfind, Option.map_some,
    (findRecord_mem h).2, if_true]

/-- Two changes of one record are one change. -/
theorem updateRecord_twice {c : Nat} {s : State} (f g : Record → Record) (hf : ∀ x, (f x).client = x.client) :
    updateRecord c g (updateRecord c f s) = updateRecord c (fun r => g (f r)) s := by
  simp only [updateRecord, State.withAst_ast, State.withAst_twice, List.map_map]
  congr 2
  refine List.map_congr_left fun x _ => ?_
  by_cases hx : x.client = c <;> simp [hx, hf]

/-- A change that no client's record minds, of a client with or without a record. -/
theorem updateRecord_moves {c : Nat} {f : Record → Record} {s : State}
    (h : ∀ r, findRecord c s = some r → RecordKept s r (f r) ∧ TimerKept s r (f r) ∧
      (((f r).state = r.state ∧ (f r).peer = r.peer) ∨ (¬ r.linked ∧ ¬ (f r).linked ∧ (f r).state ≠ .expected))) :
    Moves s (updateRecord c f s) := by
  cases hfind : findRecord c s with
  | none => exact .same (congrArg _ (updateRecord_absent hfind f))
  | some r =>
    obtain ⟨hkept, htimer, hstate⟩ := h r hfind
    exact .single (.changed f (findRecord_mem hfind) hkept htimer (hstate.imp_right fun ⟨hfree, hrest⟩ => ⟨.inl hfree, hrest⟩))

/-- The fields of a record that no invariant speaks of. -/
def Record.sameBut (r r' : Record) : Prop :=
  r' = { r with since := r'.since, heard := r'.heard, idle := r'.idle, held := r'.held, granted := r'.granted }

theorem recordKept_sameBut {r r' : Record} {s : State} (h : r.sameBut r') : RecordKept s r r' := by
  rw [h]
  exact ⟨rfl, fun h1 h2 => ⟨h1, h2⟩, fun h => h, fun h => .inl h, fun h => .inl ⟨h, rfl⟩⟩

theorem updateRecord_sameBut_moves {c : Nat} {f : Record → Record} {s : State} (h : ∀ r, Record.sameBut r (f r)) :
    Moves s (updateRecord c f s) := by
  refine updateRecord_moves fun r _ => ⟨recordKept_sameBut (h r), .inr (.inr (.inr ?_)), .inl ?_⟩ <;> rw [h r]
  · exact ⟨rfl, .inl rfl⟩
  · exact ⟨rfl, rfl⟩

/-- The end of a handoff: the entry of a client goes, and its record, where it has one, becomes one without an entry. -/
theorem ended_moves {c : Nat} {f : Record → Record} {s : State}
    (h : ∀ r, findRecord c s = some r → RecordKept s r (f r) ∧ TimerKept s r (f r) ∧
      ¬ (f r).linked ∧ (f r).state ≠ .expected) : Moves s (updateRecord c f (dropInflight c s)) := by
  cases hfind : findRecord c s with
  | none =>
    have hd : findRecord c (dropInflight c s) = none := by simpa only [findRecord, dropInflight_ast] using hfind
    have hgone : s.ast.records.filter (fun x => x.client ≠ c) = s.ast.records := by
      simp only [findRecord, List.find?_eq_none, beq_iff_eq] at hfind
      exact List.filter_eq_self.2 fun x hx => by simpa using hfind x hx
    rw [updateRecord_absent hd]
    refine Moves.andSame (.single (.removed c)) (dropInflight_tables ?_)
    rw [hgone]
    rfl
  | some r =>
    obtain ⟨hkept, htimer, hstate⟩ := h r hfind
    exact .single (.ended f (findRecord_mem hfind) hkept htimer hstate)

/-! ## Removals and additions (R22, R37) -/

/-- R37: a removal. -/
theorem removeRecord_moves (c : Nat) (s : State) : Moves s (removeRecord c s) := by
  unfold removeRecord
  cases hfind : findRecord c s with
  | none => exact .refl
  | some r =>
    dsimp only
    split
    · exact Moves.andSame (.single (.removed c)) (by simp [dropInflight_tables (loseAll_tables _ _)])
    · next hfree => exact Moves.andSame (.single (.left (findRecord_mem hfind) hfree)) (by simp)

/-- R37, R49: a removal behind the end of the client's handoff. -/
theorem removeRecord_dropInflight_moves (c : Nat) (s : State) : Moves s (removeRecord c (dropInflight c s)) := by
  refine Moves.andSame (.single (.removed c)) ?_
  have hinflight : (removeRecord c (dropInflight c s)).hoe.inflight = s.hoe.inflight.filter fun e => e.client ≠ c := by
    unfold removeRecord
    cases findRecord c (dropInflight c s) with
    | none => exact dropInflight_list c s
    | some r => simp only; split <;> simp [dropInflight_list]
  simp [State.tables, removeRecord_records, hinflight, dropInflight_list]

theorem addRecord_moves {r : Record} {s : State} (h : RecordNew s r) (hfree : ¬ r.linked) : Moves s (addRecord r s) :=
  Moves.andSame (.single (.added r h hfree)) (recompute_tables _)

/-! ## Classes (R26, R39 to R41) -/

/-- The class and the timer of a record change, and of the other fields that an invariant speaks of only its binding and its
subscriptions. -/
theorem class_moves {c : Nat} {f : Record → Record} {s : State}
    (h : ∀ r, findRecord c s = some r → (f r).client = r.client ∧
      (r.subs.length ≤ 4 → r.subs.Nodup → (f r).subs.length ≤ 4 ∧ (f r).subs.Nodup) ∧ (f r).badCodes = r.badCodes ∧
      (f r).state = r.state ∧ (f r).peer = r.peer ∧
      ((f r).timer = r.timer ∨ (f r).timer = none ∨ (f r).timer = some .claimant) ∧
      ((f r).cls = .guest → r.cls = .guest ∨ s.guests < s.capacity) ∧
      ((f r).cls = .home → (r.cls = .home ∧ (f r).binding = r.binding) ∨
        ∃ b, (f r).binding = some b ∧ checkedInBy r.client b.seat s = true)) : Moves s (updateRecord c f s) := by
  refine updateRecord_moves fun r hr => ?_
  obtain ⟨hclient, hsubs, hbad, hst, hp, htimer, hguest, hhome⟩ := h r hr
  refine ⟨⟨hclient, hsubs, fun h => hbad ▸ h, hguest, hhome⟩, ?_, .inl ⟨hst, hp⟩⟩
  rcases htimer with ht | ht | ht
  · exact .inr (.inr (.inr ⟨ht, .inl hst⟩))
  · exact .inl ht
  · exact .inr (.inl ht)

theorem stopClaimant_timer (r : Record) :
    r.stopClaimant.timer = r.timer ∨ r.stopClaimant.timer = none ∨ r.stopClaimant.timer = some .claimant := by
  unfold Record.stopClaimant
  split <;> simp

theorem claimantStart_timer (r : Record) :
    claimantStart r = r.timer ∨ claimantStart r = none ∨ claimantStart r = some .claimant := by
  unfold claimantStart
  split <;> simp

/-- R41: a claimant falls back. -/
theorem claimantFallback_moves (client : Nat) (s : State) : Moves s (claimantFallback client s) := by
  unfold claimantFallback
  cases findRecord client s with
  | none => exact .refl
  | some r =>
    dsimp only
    split_ifs with hcls hroom
    · refine Moves.andSame (class_moves fun x _ => ?_) (recompute_tables _)
      exact ⟨rfl, fun h1 h2 => ⟨h1, h2⟩, rfl, rfl, rfl, stopClaimant_timer x, fun _ => .inr hroom, fun h => by simp at h⟩
    · exact Moves.andSame (removeRecord_moves client s) (ckuPlace_tables _ _)
    · exact .refl

/-- R39: a local check-in. -/
theorem localAdmitted_moves {client : Nat} {b : Binding} {s : State} (h : checkedInBy client b.seat s = true) :
    Moves s (localAdmitted client b s) := by
  unfold localAdmitted
  have hmoves : Moves s (updateRecord client (fun r => { r.stopClaimant with binding := some b, cls := .home }) s) := by
    refine class_moves fun x hx => ⟨rfl, fun h1 h2 => ⟨h1, h2⟩, rfl, rfl, rfl, stopClaimant_timer x, fun h => by simp at h,
      fun _ => .inr ?_⟩
    exact ⟨b, rfl, (findRecord_mem hx).2.symm ▸ h⟩
  cases findRecord client s with
  | none => exact .refl
  | some r =>
    dsimp only
    split_ifs
    · exact hmoves
    · exact hmoves.andSame (recompute_tables _)

end Sys2Proof.Machine
end

section
/-! The moves that the pulls of the Handoff Engine make (R48, R56 to R63, R29). -/
namespace Sys2Proof.Machine

/-! ## The derivation of a class (R26) -/

/-- R26: a client's ground as HOME, under a binding. -/
def groundOf (client : Nat) (b : Option Binding) (s : State) : Bool :=
  match b with
  | some b => checkedInBy client b.seat s
  | none => false

theorem groundOf_iff {client : Nat} {b : Option Binding} {s : State} :
    groundOf client b s = true ↔ ∃ x, b = some x ∧ checkedInBy client x.seat s = true := by
  cases b <;> simp [groundOf]

/-- R26: what the derivation does, by the ground and the class of the record. -/
theorem deriveClass_found {client : Nat} {r : Record} {s : State} (h : findRecord client s = some r) :
    deriveClass client s =
      if groundOf client r.binding s = true then
        if r.cls = .home then s else recompute (updateRecord client (fun r => { r.stopClaimant with cls := .home }) s)
      else if r.cls = .home then
        recompute (updateRecord client (fun r => { r with cls := .claimant, timer := claimantStart r }) s)
      else s := by
  simp only [deriveClass, h]
  cases r.binding <;> rfl

theorem deriveClass_absent {client : Nat} {s : State} (h : findRecord client s = none) : deriveClass client s = s := by
  simp [deriveClass, h]

theorem deriveClass_frame (client : Nat) (s : State) : (deriveClass client s).cfl = s.cfl ∧
    (deriveClass client s).hoe = s.hoe ∧ (deriveClass client s).ens = s.ens := by
  cases h : findRecord client s with
  | none => simp [deriveClass_absent h]
  | some r =>
    rw [deriveClass_found h]
    split_ifs <;> simp

/-- R26: the derivation reads the records, the configuration and the seat entries only. -/
theorem deriveClass_records {client : Nat} {s t : State} (hconfig : t.cfl.config = s.cfl.config)
    (hrecords : t.ast.records = s.ast.records) (hseats : t.ens.seats = s.ens.seats) :
    (deriveClass client t).ast.records = (deriveClass client s).ast.records := by
  have hfind : findRecord client t = findRecord client s := by simp only [findRecord, hrecords]
  cases h : findRecord client s with
  | none => rw [deriveClass_absent h, deriveClass_absent (hfind.trans h), hrecords]
  | some r =>
    have hground : groundOf client r.binding t = groundOf client r.binding s := by
      cases r.binding <;> simp [groundOf, checkedInBy_congr hconfig hseats]
    rw [deriveClass_found h, deriveClass_found (hfind.trans h), hground]
    split_ifs <;> simp [updateRecord, hrecords]

/-- R26: a record gets another binding, and its class is derived from it. -/
theorem derived_moves {c : Nat} {g : Record → Record} {s : State}
    (hg : ∀ r, (g r).client = r.client ∧ (g r).badCodes = r.badCodes ∧ (g r).state = r.state ∧ (g r).peer = r.peer ∧
      (g r).timer = r.timer ∧ (g r).cls = r.cls ∧
      (r.subs.length ≤ 4 → r.subs.Nodup → (g r).subs.length ≤ 4 ∧ (g r).subs.Nodup)) :
    Moves s (deriveClass c (updateRecord c g s)) := by
  cases hfind : findRecord c s with
  | none =>
    rw [updateRecord_absent hfind, deriveClass_absent hfind]
  | some r =>
    have hground : groundOf c (g r).binding (updateRecord c g s) = groundOf c (g r).binding s := by
      cases (g r).binding <;> simp [groundOf, checkedInBy_congr (s := s) (t := updateRecord c g s) rfl rfl]
    have hrc := (findRecord_mem hfind).2
    have hclient : ∀ x, (g x).client = x.client := fun x => (hg x).1
    obtain ⟨hc, hbad, hst, hp, ht, hcls, hsubs⟩ := hg r
    rw [deriveClass_found (findRecord_updateRecord hfind hclient), hground, hcls]
    split_ifs with h1 h2 h2
    · refine class_moves fun x hx => ?_
      cases hfind.symm.trans hx
      refine ⟨hc, hsubs, hbad, hst, hp, .inl ht, fun h => .inl (hcls ▸ h), fun _ => .inr ?_⟩
      rw [hrc]
      exact groundOf_iff.1 h1
    · rw [updateRecord_twice _ _ hclient]
      refine Moves.andSame (class_moves fun x hx => ?_) (recompute_tables _)
      cases hfind.symm.trans hx
      refine ⟨hc, hsubs, hbad, hst, hp, ht ▸ stopClaimant_timer (g r), fun h => by simp at h, fun _ => .inr ?_⟩
      rw [hrc]
      exact groundOf_iff.1 h1
    · rw [updateRecord_twice _ _ hclient]
      refine Moves.andSame (class_moves fun x hx => ?_) (recompute_tables _)
      cases hfind.symm.trans hx
      exact ⟨hc, hsubs, hbad, hst, hp, ht ▸ claimantStart_timer (g r), fun h => by simp at h, fun h => by simp at h⟩
    · refine class_moves fun x hx => ?_
      cases hfind.symm.trans hx
      exact ⟨hc, hsubs, hbad, hst, hp, .inl ht, fun h => .inl (hcls ▸ h), fun h => absurd (hcls ▸ h) h2⟩

/-! ## The requester of a pull (R56 to R59) -/

theorem matching_entry {kind : InflightKind} {source client : Nat} {s : State}
    (h : (matching kind source client s).isSome = true) : ∃ e ∈ s.hoe.inflight, e.client = client := by
  obtain ⟨e, he⟩ := Option.isSome_iff_exists.1 h
  have hfind := (Option.filter_eq_some_iff.1 he).1
  exact ⟨e, List.mem_of_find?_eq_some hfind, by simpa using List.find?_some hfind⟩

theorem activate_kept {s : State} {r : Record} {c : Nat} (hentry : ∃ e ∈ s.hoe.inflight, e.client = c)
    (hr : findRecord c s = some r) :
    let r' : Record := { r with state := .active, peer := none, idle := some idleMs }
    RecordKept s r r' ∧ TimerKept s r r' ∧ ¬ r'.linked ∧ r'.state ≠ .expected := by
  refine ⟨⟨rfl, fun h1 h2 => ⟨h1, h2⟩, fun h => h, fun h => .inl h, fun h => .inl ⟨h, rfl⟩⟩, ?_, ?_, by simp⟩
  · rw [← (findRecord_mem hr).2] at hentry
    exact .inr (.inr (.inr ⟨rfl, .inr (.inr hentry)⟩))
  · simp [Record.linked]

/-- R57, R59: a pull ends. -/
theorem pullEndsFresh_moves {lost : Bool} {c : Nat} {s : State} (hentry : ∃ e ∈ s.hoe.inflight, e.client = c) :
    Moves s (pullEndsFresh lost c s) := by
  have hmoves : Moves s (activateRecord c (dropInflight c s)) := ended_moves fun r hr => activate_kept hentry hr
  refine hmoves.andSame ?_
  simp only [pullEndsFresh, hoePlace_tables]
  split <;> rfl

theorem updateInflight_moves {c : Nat} {f : Inflight → Inflight} {s : State}
    (h : ∀ e, (f e).client = e.client ∧ (f e).kind = e.kind ∧ (f e).peer = e.peer) : Moves s (updateInflight c f s) := by
  refine .single (.entries _ fun e => ?_)
  split
  · exact h e
  · exact ⟨rfl, rfl, rfl⟩

theorem updateInflight_entry {c d : Nat} {f : Inflight → Inflight} {s : State} (hf : ∀ e, (f e).client = e.client)
    (h : ∃ e ∈ s.hoe.inflight, e.client = d) : ∃ e ∈ (updateInflight c f s).hoe.inflight, e.client = d := by
  obtain ⟨e, he, hc⟩ := h
  refine ⟨_, List.mem_map_of_mem he, ?_⟩
  split
  · exact (hf e).trans hc
  · exact hc

/-- R57: the second attempt of a pull. -/
theorem secondAttempt_moves {e : Inflight} {s : State} (hentry : ∃ x ∈ s.hoe.inflight, x.client = e.client) :
    Moves s (secondAttempt e s) := by
  have hfails : ∀ t : State, t.tables = s.tables → Moves s (pullEndsFresh true e.client t) := fun t ht =>
    (Moves.same ht).trans (pullEndsFresh_moves ((tables_eq_iff.1 ht).2.2.2.1 ▸ hentry))
  have hupdated : ∀ (f : Inflight → Inflight) (t : State), t.tables = s.tables →
      (∀ e, (f e).client = e.client ∧ (f e).kind = e.kind ∧ (f e).peer = e.peer) →
      Moves s (updateInflight e.client f t) := fun f t ht hf => (Moves.same ht).trans (updateInflight_moves hf)
  unfold secondAttempt
  dsimp only
  split
  · exact hfails _ rfl
  · have hw : ∀ d b, (queueFrame d b (if decide (e.frame = .queued) = true then withdrawFrame e.tag s else s)).tables =
        s.tables := fun d b => by split <;> rfl
    split
    · exact hupdated _ _ (hw _ _) fun x => ⟨rfl, rfl, rfl⟩
    · refine (hupdated (fun x => { x with frame := .ended }) _ (hw _ _) fun x => ⟨rfl, rfl, rfl⟩).trans
        (pullEndsFresh_moves (updateInflight_entry (fun _ => rfl) ?_))
      rw [(tables_eq_iff.1 (hw _ _)).2.2.2.1]
      exact hentry

/-- R57: an attempt of a pull fails. -/
theorem pullAttemptFails_moves {e : Inflight} {s : State} (hentry : ∃ x ∈ s.hoe.inflight, x.client = e.client) :
    Moves s (pullAttemptFails e s) := by
  unfold pullAttemptFails
  split
  · exact secondAttempt_moves hentry
  · exact pullEndsFresh_moves hentry

/-- R56: a pull starts, once its record has entered PULLING in a way that the addition of the entry makes a move. -/
theorem startPull_moves {c peer : Nat} {s t : State}
    (h : ∀ e : Inflight, e.client = c → e.kind = .pull → e.peer = peer → Moves s (addInflight e t)) :
    Moves s (startPull c peer t) := by
  unfold startPull
  dsimp only
  split
  · next tag _ => exact (h (queuedEntry c .pull peer tag) rfl rfl rfl).andSame (addInflight_tables rfl)
  · have hadded : Moves s (addInflight (refusedEntry c .pull peer) (queueFrame peer (.ctxPull c (sinceOf c t) 1) t)) :=
      (h _ rfl rfl rfl).andSame (addInflight_tables rfl)
    exact hadded.trans (secondAttempt_moves ⟨refusedEntry c .pull peer, by simp [addInflight], rfl⟩)

theorem keptStreams_sound (l : List Nat) (s : State) : (keptStreams l s).length ≤ 4 ∧ (keptStreams l s).Nodup :=
  ⟨by simp [keptStreams], ((distinct_nodup l).filter _).sublist (List.take_sublist _ _)⟩

/-- R44: the installation of a list changes the record and the counts of the streams. -/
theorem installStreams_tables (c : Nat) (l : List Nat) (s : State) :
    (installStreams c l s).tables = (updateRecord c (fun r => { r with subs := keptStreams l s }) s).tables := by
  have hgained : ∀ (k : List Nat) (t : State), (k.foldl (fun s id => gainSubscriber id s) t).tables = t.tables := by
    intro k
    induction k with
    | nil => exact fun _ => rfl
    | cons a k ih => exact fun t => ih (gainSubscriber a t)
  exact hgained _ _

/-- R58: a CTX_GRANT. -/
theorem takeGrant_moves (source : Nat) (g : GrantPayload) (s : State) : Moves s (takeGrant source g s) := by
  unfold takeGrant
  split
  · next h =>
    obtain ⟨-, hmatch⟩ := Bool.and_eq_true_iff.1 h
    have hentry := matching_entry hmatch
    dsimp only
    generalize droppedStreams g.streams s = dropped
    let bind (r : Record) : Record := { r with since := g.since, binding := if g.binding.isSome then g.binding else r.binding }
    let bound := updateRecord g.client bind (dropInflight g.client s)
    let kept (r : Record) : Record := { bind r with subs := keptStreams g.streams bound }
    let derived := deriveClass g.client (updateRecord g.client kept s)
    have hinstalled : (installStreams g.client g.streams bound).tables =
        (updateRecord g.client kept (dropInflight g.client s)).tables := by
      rw [installStreams_tables]
      exact congrArg _ (updateRecord_twice bind _ fun _ => rfl)
    obtain ⟨hnode, hconfig, hrecords, hinflight, hseats⟩ := tables_eq_iff.1 hinstalled
    have hderived : (deriveClass g.client (installStreams g.client g.streams bound)).tables =
        (dropInflight g.client derived).tables := by
      obtain ⟨hcfl, hhoe, hens⟩ := deriveClass_frame g.client (installStreams g.client g.streams bound)
      obtain ⟨hcfl', hhoe', hens'⟩ := deriveClass_frame g.client (updateRecord g.client kept s)
      refine tables_eq_iff.2 ⟨?_, ?_, ?_, ?_, ?_⟩
      · simp [hcfl, hcfl', derived, hnode]
      · simp [hcfl, hcfl', derived, hconfig]
      · rw [dropInflight_ast]
        refine deriveClass_records ?_ ?_ ?_
        · simp [hconfig]
        · simp [hrecords, updateRecord]
        · simp [hseats]
      · simp [hhoe, hhoe', derived, hinflight, dropInflight_list]
      · simp [hens, hens', derived, hseats]
    have hmoves : Moves s derived := derived_moves fun r =>
      ⟨rfl, rfl, rfl, rfl, rfl, rfl, fun _ _ => keptStreams_sound g.streams bound⟩
    have hended : Moves derived (activateRecord g.client (dropInflight g.client derived)) :=
      ended_moves fun r hr => activate_kept (by rw [(deriveClass_frame _ _).2.1]; exact hentry) hr
    exact Moves.andSame (hmoves.trans hended) ((hoePlace_tables _ _).trans (updateRecord_tables hderived))
  · exact .refl

/-- R59: a CTX_NONE. -/
theorem takeNone_moves (source c : Nat) (s : State) : Moves s (takeNone source c s) := by
  unfold takeNone
  split
  · next h => exact pullEndsFresh_moves (matching_entry (Bool.and_eq_true_iff.1 h).2)
  · exact .refl

/-- R59: a CTX_HELD. -/
theorem takeHeld_moves (source c : Nat) (s : State) : Moves s (takeHeld source c s) := by
  unfold takeHeld
  split
  · exact (removeRecord_dropInflight_moves c s).andSame (hoePlace_tables _ _)
  · exact .refl

/-! ## The holder of a pull (R60 to R63) -/

theorem removeGranted_moves (lost : Bool) (c : Nat) (s : State) : Moves s (removeGranted lost c s) := by
  unfold removeGranted
  dsimp only
  split
  · exact (removeRecord_moves c s).andSame (raise_tables _ _)
  · exact removeRecord_moves c s

/-- R60: the record whose context has been granted. -/
def releasedRecord (source since : Nat) (r : Record) : Record :=
  { r with state := .releasing, peer := some source, idle := none, timer := none,
           granted := r.grantedTo { station := source, since := since } }

/-- R60: the holder's state as the CTX_GRANT is offered to the RBC. -/
def grantReleased (source since : Nat) (r : Record) (s : State) : State :=
  updateRecord r.client (releasedRecord source since) (if r.state = .offering then dropInflight r.client s else s)

theorem grantContext_eq (source since : Nat) (r : Record) (s : State) :
    grantContext source since r s =
      (let t := grantReleased source since r s
       let body := OutFrame.ctxGrant r.client r.since r.binding r.subs
       if (queueAnswer source body t).isSome then queueFrame source body t
       else removeGranted true r.client (queueFrame source body t)) := rfl

/-- R60: a grant. -/
theorem grantContext_moves {source since c : Nat} {r : Record} {s : State} (hr : findRecord c s = some r)
    (hstate : r.state = .active ∨ r.state = .offering ∨ r.state = .steered) : Moves s (grantContext source since r s) := by
  obtain ⟨-, rfl⟩ := findRecord_mem hr
  have hkept : ∀ x : Record, RecordKept s x (releasedRecord source since x) := fun x =>
    ⟨rfl, fun h1 h2 => ⟨h1, h2⟩, fun h => h, fun h => .inl h, fun h => .inl ⟨h, rfl⟩⟩
  have hfree : ∀ x, ¬ (releasedRecord source since x).linked ∧ (releasedRecord source since x).state ≠ .expected :=
    fun x => by simp [releasedRecord, Record.linked]
  have hreleased : Moves s (grantReleased source since r s) := by
    unfold grantReleased
    split
    · exact ended_moves fun x _ => ⟨hkept x, .inl rfl, hfree x⟩
    · next hoff =>
      refine updateRecord_moves fun x hx => ⟨hkept x, .inl rfl, .inr ⟨?_, hfree x⟩⟩
      cases hr.symm.trans hx
      rcases hstate with h | h | h <;> simp_all [Record.linked]
  rw [grantContext_eq]
  dsimp only
  split
  · exact hreleased.andSame (queueFrame_tables _ _ _)
  · exact Relation.ReflTransGen.trans (hreleased.andSame (queueFrame_tables _ _ _)) (removeGranted_moves _ _ _)

theorem takePull_moves (source c since : Nat) (s : State) : Moves s (takePull source c since s) := by
  unfold takePull
  split
  · cases hr : findRecord c s with
    | none => exact .same rfl
    | some r =>
      have hgrants : ∀ t : State, (r.state = .active ∨ r.state = .offering ∨ r.state = .steered) →
          t = (if { station := source, since := since } ∈ r.granted then queueFrame source (.ctxNone c) s
            else if s.sck.phase = .unknown ∨ r.since < since then grantContext source since r s
            else queueFrame source (.ctxHeld c) s) → Moves s t := by
        rintro t hst rfl
        split_ifs
        · exact .same rfl
        · exact grantContext_moves hr hst
        · exact .same rfl
      cases hst : r.state with
      | releasing => exact .same (by simp [hst])
      | expected => exact (removeRecord_moves c s).andSame (by simp [hst])
      | pulling =>
        simp only [hst]
        split
        · refine (removeRecord_dropInflight_moves c s).andSame ?_
          simp [abandonPull]
        · exact .same rfl
      | active => exact hgrants _ (.inl hst) (by simp only [hst])
      | offering => exact hgrants _ (.inr (.inl hst)) (by simp only [hst])
      | steered => exact hgrants _ (.inr (.inr hst)) (by simp only [hst])
  · exact .refl

end Sys2Proof.Machine
end

section
/-! The moves that steering (R64 to R72) and the admission of a client (R27 to R31) make. -/
namespace Sys2Proof.Machine

/-! ## Steering (R64 to R72) -/

/-- The entries and the records are changed apart from each other. -/
theorem dropInflight_updateRecord_tables (c d : Nat) (f : Record → Record) (s : State) :
    (dropInflight c (updateRecord d f s)).tables = (updateRecord d f (dropInflight c s)).tables := by
  simp [State.tables, dropInflight_list, updateRecord]

/-- R68: an OFFERING record returns to ACTIVE. -/
def offerEnded (r : Record) : Record := { r with state := .active, peer := none }

theorem offerEnded_kept (s : State) (r : Record) : RecordKept s r (offerEnded r) :=
  ⟨rfl, fun h1 h2 => ⟨h1, h2⟩, fun h => h, fun h => .inl h, fun h => .inl ⟨h, rfl⟩⟩

theorem offerEnds_moves {c : Nat} {s : State} (hentry : ∃ e ∈ s.hoe.inflight, e.client = c) : Moves s (offerEnds c s) := by
  refine ended_moves (f := offerEnded) fun r hr => ⟨offerEnded_kept s r, .inr (.inr (.inr ⟨rfl, .inr (.inr ?_)⟩)), ?_, ?_⟩
  · rw [(findRecord_mem hr).2]
    exact hentry
  · simp [Record.linked, offerEnded]
  · simp [offerEnded]

/-- R66: an offer begins, from an ACTIVE record. -/
theorem startOffer_moves {r : Record} {target : Nat} {s : State} (hr : r ∈ s.ast.records) (hactive : r.state = .active) :
    Moves s (startOffer r target s) := by
  let offering (x : Record) : Record := { x with state := .offering, peer := some target }
  have hkept : RecordKept s r (offering r) :=
    ⟨rfl, fun h1 h2 => ⟨h1, h2⟩, fun h => h, fun h => .inl h, fun h => .inl ⟨h, rfl⟩⟩
  unfold startOffer
  dsimp only
  split
  · next tag _ =>
    refine Moves.andSame (.single (.begun offering (queuedEntry r.client .offer target tag) ⟨hr, rfl⟩ hkept ?_ ?_ fun _ => ?_))
      (addInflight_tables rfl)
    · exact .inr (.inr (.inr ⟨rfl, .inr (.inl (by simp [hactive]))⟩))
    · simp [Record.linked, hactive]
    · exact ⟨rfl, rfl, rfl⟩
  · refine Moves.andSame (.single (.ended (fun x => offerEnded (offering x)) ⟨hr, rfl⟩ ?_ ?_ ?_)) ?_
    · exact ⟨rfl, fun h1 h2 => ⟨h1, h2⟩, fun h => h, fun h => .inl h, fun h => .inl ⟨h, rfl⟩⟩
    · exact .inr (.inr (.inr ⟨rfl, .inl (by simp [hactive, offerEnded])⟩))
    · simp [Record.linked, offerEnded]
    · rw [← updateRecord_twice offering offerEnded fun _ => rfl]
      exact updateRecord_tables ((dropInflight_tables (queueFrame_tables _ _ _)).trans (dropInflight_updateRecord_tables _ _ _ _))

/-- R65: the candidate chosen is ACTIVE. -/
theorem steerChoice_active {margin target : Nat} {r : Record} {s : State} (h : steerChoice margin s = some (r, target)) :
    r ∈ s.ast.records ∧ r.state = .active := by
  obtain ⟨x, hx, hsome⟩ := List.exists_of_findSome?_eq_some h
  obtain ⟨t, -, ht⟩ := Option.map_eq_some_iff.1 hsome
  cases ht
  have hx := List.mem_of_mem_take hx
  simp only [List.mem_filter, List.mem_reverse, Bool.and_eq_true, beq_iff_eq] at hx
  exact ⟨hx.1, hx.2.1.1⟩

theorem steerEvaluate_moves (s : State) : Moves s (steerEvaluate s) := by
  unfold steerEvaluate
  split
  · exact .refl
  · split
    · split
      · next h => exact startOffer_moves (steerChoice_active h).1 (steerChoice_active h).2
      · exact .refl
    · exact .refl

/-- R67: a STEER_ACCEPT. -/
theorem takeAccept_moves (source c : Nat) (s : State) : Moves s (takeAccept source c s) := by
  unfold takeAccept
  split
  · refine Moves.andSame (ended_moves (f := fun r => { r with state := .steered, timer := some .steer }) fun r _ => ?_)
      (hoePlace_tables _ _)
    exact ⟨⟨rfl, fun h1 h2 => ⟨h1, h2⟩, fun h => h, fun h => .inl h, fun h => .inl ⟨h, rfl⟩⟩,
      .inr (.inr (.inl ⟨rfl, rfl⟩)), by simp [Record.linked], by simp⟩
  · exact .refl

/-- R68: a STEER_DECLINE. -/
theorem takeDecline_moves (source c : Nat) (s : State) : Moves s (takeDecline source c s) := by
  have hhold : Moves s (setDeclineHold source s) := .same rfl
  unfold takeDecline
  split
  · dsimp only
    split
    · next h => exact Relation.ReflTransGen.trans hhold (offerEnds_moves (matching_entry h))
    · exact hhold
  · exact .refl

/-- R71: the binding that an offer gives is a seat CHECKED_IN by the client. -/
theorem offeredBinding_checkedIn {client : Nat} {seat : Option Nat} {b : Binding} {s : State}
    (h : offeredBinding client seat s = some b) : checkedInBy client b.seat s = true := by
  obtain ⟨q, -, hq⟩ := Option.bind_eq_some_iff.1 h
  split at hq
  · next t holder time hst =>
    split at hq
    · next hc =>
      cases hq
      simp [checkedInBy, hst, hc]
    · cases hq
  · cases hq

/-- R71, R72: a STEER_OFFER. -/
theorem takeOffer_moves (source client : Nat) (seat : Option Nat) (s : State) : Moves s (takeOffer source client seat s) := by
  unfold takeOffer
  split
  · exact .refl
  · next c hc =>
    split
    · next hj =>
      cases hcheck : offerCheck c client seat s with
      | some reason => exact .same rfl
      | none =>
        refine (addRecord_moves ?_ (by simp [Record.linked, expectedRecord])).andSame (queueFrame_tables _ _ _)
        have habsent : findRecord client s = none := by
          by_contra hne
          rw [offerCheck_already (Option.isSome_iff_ne_none.2 hne)] at hcheck
          cases hcheck
        have hload : ¬ offerOverloads c client seat s := fun h => by
          rw [offerCheck_load habsent h] at hcheck
          cases hcheck
        simp only [offerOverloads, not_or, not_and] at hload
        obtain ⟨hroom, -, -, hguests⟩ := hload
        refine ⟨habsent, hj, Nat.lt_of_not_le hroom, fun hcls => ?_, fun hcls => ?_, rfl, rfl, by simp [expectedRecord],
          fun _ => rfl, fun _ => rfl⟩
        · simp only [State.capacity, hc, Option.map_some, Option.getD_some]
          refine Nat.lt_of_not_le (hguests ?_)
          cases hb : offeredBinding client seat s with
          | none => rfl
          | some b => simp [expectedRecord, hb] at hcls
        · cases hb : offeredBinding client seat s with
          | none => simp [expectedRecord, hb] at hcls
          | some b => exact ⟨b, hb, offeredBinding_checkedIn hb⟩
    · exact .refl

/-! ## Admission (R27 to R31, R51) -/

theorem claimantTimerFor_cases (c : ClientClass) : claimantTimerFor c = none ∨ claimantTimerFor c = some .claimant := by
  unfold claimantTimerFor
  split <;> simp

@[simp] theorem answerAssociate_tables (client : Nat) (code : AssocCode) (cls : Option ClientClass) (s : State) :
    (answerAssociate client code cls s).tables = s.tables := astPlace_tables _ _

@[simp] theorem answerAccepted_tables (client : Nat) (code : AssocCode) (s : State) :
    (answerAccepted client code s).tables = s.tables := astPlace_tables _ _

@[simp] theorem waitOrRefuse_tables (q : AssocRequest) (s : State) : (waitOrRefuse q s).tables = s.tables := by
  unfold waitOrRefuse
  split
  · rfl
  · split
    · rfl
    · exact answerAssociate_tables _ _ _ _

/-- R28, R29, R70: a record without an entry becomes ACTIVE, with no peer station and no hold. -/
theorem reactivate_moves {c : Nat} {f : Record → Record} {s : State}
    (hf : ∀ r, (f r).client = r.client ∧ (f r).subs = r.subs ∧ (f r).badCodes = r.badCodes ∧ (f r).cls = r.cls ∧
      (f r).binding = r.binding ∧ (f r).state = .active ∧ ((f r).timer = none ∨ (f r).timer = some .claimant))
    (hfree : ∀ r, findRecord c s = some r → ¬ r.linked) : Moves s (updateRecord c f s) := by
  refine updateRecord_moves fun r hr => ?_
  obtain ⟨hclient, hsubs, hbad, hcls, hb, hst, ht⟩ := hf r
  refine ⟨⟨hclient, fun h1 h2 => hsubs ▸ ⟨h1, h2⟩, fun h => hbad ▸ h, fun h => .inl (hcls ▸ h), fun h => .inl ⟨hcls ▸ h, hb⟩⟩,
    ht.imp_right .inl, .inr ⟨hfree r hr, ?_, ?_⟩⟩ <;> simp [Record.linked, hst]

/-- R28: an ASSOCIATE meets an EXPECTED record. -/
theorem associateExpected_moves {readmit : Bool} {r : Record} {q : AssocRequest} {s : State}
    (hr : findRecord q.client s = some r) (hst : r.state = .expected) : Moves s (associateExpected readmit r q s) := by
  let heard (x : Record) : Record := { x with heard := normaliseHeard s.station q.heard }
  have hheard : Moves s (updateRecord q.client heard s) := updateRecord_sameBut_moves fun _ => rfl
  have hfound : findRecord q.client (updateRecord q.client heard s) = some (heard r) :=
    findRecord_updateRecord hr fun _ => rfl
  have hfree : ∀ x, findRecord q.client (updateRecord q.client heard s) = some x → ¬ x.linked := by
    intro x hx
    cases hfound.symm.trans hx
    simp [Record.linked, heard, hst]
  unfold associateExpected
  dsimp only
  split_ifs
  · refine hheard.trans (Moves.andSame (reactivate_moves (fun x => ?_) hfree) (answerAccepted_tables _ _ _))
    exact ⟨rfl, rfl, rfl, rfl, rfl, rfl, claimantTimerFor_cases _⟩
  · refine hheard.trans (startPull_moves fun e hc hk hp => ?_)
    refine .single (.begun (fun x => { x with state := .pulling, timer := claimantTimerFor x.cls }) e
      (findRecord_mem hfound) ?_ ?_ (hfree _ hfound) fun hpeer => ?_)
    · exact ⟨rfl, fun h1 h2 => ⟨h1, h2⟩, fun h => h, fun h => .inl h, fun h => .inl ⟨h, rfl⟩⟩
    · exact (claimantTimerFor_cases _).imp_right .inl
    · obtain ⟨a, ha⟩ := Option.isSome_iff_exists.1 (hpeer hst)
      have ha : r.peer = some a := ha
      refine ⟨(findRecord_mem hr).2.trans hc.symm, ?_, by simp [hk]⟩
      rw [hp, ha]
      rfl
  · exact hheard.andSame (waitOrRefuse_tables _ _)

/-- R28, R29: an ASSOCIATE meets the client's record. -/
theorem associateKnown_moves {readmit : Bool} {r : Record} {q : AssocRequest} {s : State}
    (hr : findRecord q.client s = some r) : Moves s (associateKnown readmit r q s) := by
  have hrefresh : Moves s (updateRecord q.client (Record.refresh s.station q) s) := updateRecord_sameBut_moves fun _ => rfl
  have hfree : (r.state = .steered ∨ r.state = .releasing) → ∀ x, findRecord q.client s = some x → ¬ x.linked := by
    intro hst x hx
    cases hr.symm.trans hx
    rcases hst with h | h <;> simp [Record.linked, h]
  cases hst : r.state with
  | active | offering =>
    simp only [associateKnown, hst]
    exact hrefresh.andSame (answerAccepted_tables _ _ _)
  | steered =>
    simp only [associateKnown, hst]
    refine Moves.andSame (reactivate_moves
      (f := fun r => { r with state := .active, peer := none, timer := none }.refresh s.station q)
      (fun x => ?_) (hfree (.inl hst))) (answerAccepted_tables _ _ _)
    exact ⟨rfl, rfl, rfl, rfl, rfl, rfl, .inl rfl⟩
  | pulling =>
    simp only [associateKnown, hst]
    exact .refl
  | expected =>
    simp only [associateKnown, hst]
    exact associateExpected_moves hr hst
  | releasing =>
    simp only [associateKnown, hst, associateReleasing]
    split
    · next tag _ =>
      have hwithdrawn : Moves s (withdrawFrame tag s) := .same rfl
      refine hwithdrawn.trans (Moves.andSame (reactivate_moves (fun x => ?_) (hfree (.inr hst))) (answerAccepted_tables _ _ _))
      exact ⟨rfl, rfl, rfl, rfl, rfl, rfl, claimantTimerFor_cases _⟩
    · exact updateRecord_sameBut_moves fun _ => rfl

/-- R30: where there is room, it is room for the class of the new record. -/
theorem newClass_room {q : AssocRequest} {cls : ClientClass} {s : State} (h : newClass q s = some cls) :
    s.ast.records.length < 160 ∧ cls ≠ .home ∧ (cls = .guest → s.guests < s.capacity) := by
  by_cases hroom : tableLimit ≤ s.clients
  · simp [newClass, hroom] at h
  · refine ⟨Nat.lt_of_not_le hroom, ?_⟩
    simp only [newClass, hroom, if_false] at h
    split at h
    · cases h
      simp
    · split at h
      · next hguest =>
        cases h
        simpa using hguest
      · cases h

/-- R30, R31: what the record of a new client begins as. -/
theorem newRecord_new {q : AssocRequest} {cls : ClientClass} {source : Option Nat} {s : State}
    (habsent : findRecord q.client s = none) (hj : s.cfl.node = .joined) (hcls : newClass q s = some cls) :
    RecordNew s (newRecord q cls source s) := by
  obtain ⟨hroom, hhome, hguest⟩ := newClass_room hcls
  have ht : (newRecord q cls source s).timer = claimantTimerFor cls := rfl
  have hst : (newRecord q cls source s).state ≠ .expected := by simp only [newRecord]; split <;> simp
  refine ⟨habsent, hj, hroom, hguest, fun h => absurd h hhome, rfl, rfl, ?_, ?_, fun h => absurd h hst⟩ <;> rw [ht] <;>
    rcases claimantTimerFor_cases cls with h | h <;> simp [h]

theorem associateNew_moves {readmit : Bool} {q : AssocRequest} {s : State} (habsent : findRecord q.client s = none)
    (hj : s.cfl.node = .joined) : Moves s (associateNew readmit q s) := by
  unfold associateNew
  cases hcls : newClass q s with
  | none => exact .same (astPlace_tables _ _)
  | some cls =>
    have hnew := fun source => newRecord_new (source := source) habsent hj hcls
    dsimp only
    split
    · exact (addRecord_moves (hnew none) (by simp [Record.linked, newRecord])).andSame (answerAccepted_tables _ _ _)
    · next source _ =>
      split
      · refine startPull_moves fun e hc hk hp => ?_
        refine Moves.andSame (.single (.pulling (newRecord q cls (some source) s) e (hnew _) ?_))
          (addInflight_tables (recompute_tables _))
        exact ⟨hc.symm, by simp [newRecord, hp], by simp [newRecord, hk]⟩
      · exact .same (waitOrRefuse_tables _ _)

/-- R27: an admission. -/
theorem associate_moves (readmit : Bool) (q : AssocRequest) (s : State) : Moves s (associate readmit q s) := by
  cases hnode : s.cfl.node with
  | joined =>
    simp only [associate, hnode]
    cases hr : findRecord q.client s with
    | none => exact associateNew_moves hr hnode
    | some r => exact associateKnown_moves hr
  | muted =>
    simp only [associate, hnode]
    cases hr : findRecord q.client s with
    | none => exact .same (answerAssociate_tables _ _ _ _)
    | some r =>
      dsimp only
      split
      · exact associateKnown_moves hr
      · exact .same (answerAssociate_tables _ _ _ _)
  | listening | unconfigured =>
    simp only [associate, hnode]
    exact .same (answerAssociate_tables _ _ _ _)
  | loading =>
    simp only [associate, hnode]
    exact .refl

end Sys2Proof.Machine
end

section
/-! The moves that the requests of the association table, the check-in unit and the entitlement store make. -/
namespace Sys2Proof.Machine

/-! ## The requests of the association table (R34, R38, R42, R43) -/

theorem restartIdle_moves (c : Nat) (s : State) : Moves s (restartIdle c s) := by
  refine updateRecord_sameBut_moves fun r => ?_
  split <;> rfl

theorem takeHeard_moves (c : Nat) (l : List Nat) (s : State) : Moves s (takeHeard c l s) := by
  refine updateRecord_sameBut_moves fun r => ?_
  split
  · rfl
  · split <;> rfl

/-- R42: what a SUBSCRIBE that succeeds has found. -/
theorem subscribeCode_subscribed {c stream : Nat} {s : State} (h : subscribeCode c stream s = .subscribed) :
    ∀ r, findRecord c s = some r → stream ∉ r.subs ∧ r.subs.length < 4 := by
  intro r hr
  simp only [subscribeCode, hr] at h
  split at h
  · cases h
  · split at h
    · cases h
    · split_ifs at h with h1 h2 h3
      exact ⟨h2, Nat.lt_of_not_le h3⟩

/-- The list of subscriptions of a record changes. -/
theorem subs_moves {c : Nat} {f : List Nat → List Nat} {s : State}
    (h : ∀ r, findRecord c s = some r → r.subs.length ≤ 4 → r.subs.Nodup → (f r.subs).length ≤ 4 ∧ (f r.subs).Nodup) :
    Moves s (updateRecord c (fun r => { r with subs := f r.subs }) s) :=
  class_moves fun r hr => ⟨rfl, h r hr, rfl, rfl, rfl, .inl rfl, .inl, fun h => .inl ⟨h, rfl⟩⟩

theorem subscribe_moves (c stream : Nat) (s : State) : Moves s (subscribe c stream s) := by
  unfold subscribe
  dsimp only
  split
  · next hcode =>
    refine (restartIdle_moves c s).trans (Moves.andSame (subs_moves (f := fun l => l ++ [stream]) ?_) rfl)
    intro r hr hlen hnd
    have hfound : ∃ x, findRecord c s = some x ∧ r.subs = x.subs := by
      cases hx : findRecord c s with
      | none =>
        rw [restartIdle, updateRecord_absent hx, hx] at hr
        cases hr
      | some x =>
        have hidle : ∀ y : Record, (if y.state.served = true then { y with idle := some idleMs } else y).client = y.client ∧
            (if y.state.served = true then { y with idle := some idleMs } else y).subs = y.subs := fun y => by
          split <;> exact ⟨rfl, rfl⟩
        rw [restartIdle, findRecord_updateRecord hx fun y => (hidle y).1] at hr
        cases hr
        exact ⟨x, rfl, (hidle x).2⟩
    obtain ⟨x, hx, hsubs⟩ := hfound
    obtain ⟨hnot, hroom⟩ := subscribeCode_subscribed hcode x hx
    rw [hsubs] at hnd ⊢
    refine ⟨by simp; omega, ?_⟩
    simpa [List.nodup_append, hnd] using fun a ha => ne_of_mem_of_not_mem ha hnot
  · exact (restartIdle_moves c s).andSame (placeOnLane_tables _ _)

theorem unsubscribe_moves (c stream : Nat) (s : State) : Moves s (unsubscribe c stream s) := by
  unfold unsubscribe
  dsimp only
  split
  · refine (restartIdle_moves c s).trans (Moves.andSame (subs_moves (f := fun l => l.filter fun x => x ≠ stream) ?_) rfl)
    exact fun r _ hlen hnd => ⟨(List.length_filter_le _ _).trans hlen, hnd.filter _⟩
  · exact (restartIdle_moves c s).andSame (placeOnLane_tables _ _)

theorem takeDepart_moves (c : Nat) (s : State) : Moves s (takeDepart c s) := by
  unfold takeDepart
  split
  · exact .same rfl
  · split
    · exact .refl
    · exact removeRecord_moves c s

/-! ## Check-in (R95 to R109) -/

/-- R99, R76: the write of an entry of the block. -/
theorem updateSeat_found {q i : Nat} {e : SeatEntry} {s : State} (f : SeatEntry → SeatEntry) (hi : seatIndex q s = some i)
    (he : s.ens.seats[i]? = some e) : updateSeat q f s = writeSeat i (f e) s := by
  obtain ⟨hlt, hget⟩ := List.getElem?_eq_some_iff.1 he
  have hmodify : s.ens.seats.modify i f = s.ens.seats.set i (f e) := by
    rw [List.modify_eq_set_getElem?, he]
    rfl
  simp only [updateSeat, hi, writeSeat, hmodify]

/-- R99: an entry that the decision checks in was ISSUED, and one that it finds duplicate is CHECKED_IN by another. -/
theorem decideSeat_cases (client ticket serial : Nat) (st : Standing) :
    (∀ t, decideSeat client ticket serial st = .checkIn t → st = .issued t) ∧
      (decideSeat client ticket serial st = .again → ∃ t time, st = .checkedIn t client time) := by
  cases st with
  | empty | void t => simp [decideSeat]
  | issued t =>
    simp only [decideSeat]
    split <;> simp
  | checkedIn t holder time =>
    simp only [decideSeat]
    split
    · simp
    · split
      · next h => simp [h]
      · simp

/-- R99: the decision on a seat of the block, and its entry. -/
theorem ownerDecision_found {client ticket serial q : Nat} {d : Decision} {s : State}
    (h : ownerDecision client ticket serial q s = some d) :
    ∃ i e, seatIndex q s = some i ∧ s.ens.seats[i]? = some e ∧ d = decideSeat client ticket serial e.standing := by
  obtain ⟨e, he, hd⟩ := Option.map_eq_some_iff.1 h
  obtain ⟨i, hi, hget⟩ := seatEntry_eq_some.1 he
  exact ⟨i, e, hi, hget, hd.symm⟩

/-- R99 to R101: the writes of a decision keep every number and every other check-in. -/
theorem applyDecision_moves {client ticket serial q : Nat} {d : Decision} {s : State}
    (h : ownerDecision client ticket serial q s = some d) : Moves s (applyDecision client q d s) := by
  obtain ⟨i, e, hi, he, hd⟩ := ownerDecision_found h
  cases d with
  | checkIn t =>
    have hst : e.standing = .issued t := (decideSeat_cases client ticket serial e.standing).1 t hd.symm
    simp only [applyDecision]
    rw [updateSeat_found _ hi he]
    refine Moves.andSame (.single (.seatKept _ he ?_ ?_)) (queueFrame_tables _ _ _)
    · simp [hst, Standing.ticketNumber]
    · simp [hst]
  | duplicate t holder =>
    simp only [applyDecision]
    rw [updateSeat_found _ hi he]
    exact Moves.andSame (.single (.seatKept e.countDuplicate he rfl fun _ _ _ _ => rfl)) rfl
  | unknownSeat | voided | notCurrent | again => exact .refl

/-- R39, R99: after a decision ADMITTED the seat is CHECKED_IN by the client. -/
theorem applyDecision_admitted {client ticket serial q : Nat} {d : Decision} {s : State}
    (h : ownerDecision client ticket serial q s = some d) (hd : d.verdict = .admitted) :
    checkedInBy client q (applyDecision client q d s) = true := by
  obtain ⟨i, e, hi, he, hde⟩ := ownerDecision_found h
  have hlt := (List.getElem?_eq_some_iff.1 he).1
  cases d with
  | checkIn t =>
    simp only [applyDecision]
    rw [updateSeat_found _ hi he]
    exact checkedInBy_iff.2 ⟨i, { e with standing := .checkedIn t client s.sck.time }, hi, by simp [writeSeat, hlt],
      t, s.sck.time, rfl⟩
  | again =>
    obtain ⟨t, time, hst⟩ := (decideSeat_cases client ticket serial e.standing).2 hde.symm
    exact checkedInBy_iff.2 ⟨i, e, hi, he, t, time, hst⟩
  | unknownSeat | voided | notCurrent | duplicate => simp [Decision.verdict] at hd

@[simp] theorem placeLocalResult_tables (p : Presentation) (code : CheckinCode) (n : Nat) (s : State) :
    (placeLocalResult p code n s).tables = s.tables := by
  unfold placeLocalResult stationGiven
  split
  · exact (withFree_tables _ _).trans (ckuPlace_tables _ _)
  · exact ckuPlace_tables _ _

@[simp] theorem placeOwnerResult_tables (client ticket seat : Nat) (code : CheckinCode) (owner n : Nat) (s : State) :
    (placeOwnerResult client ticket seat code owner n s).tables = s.tables := ckuPlace_tables _ _

theorem refuseLocally_moves (p : Presentation) (code : CheckinCode) (n : Nat) (s : State) :
    Moves s (refuseLocally p code n s) :=
  Moves.behindSame (claimantFallback_moves _ _) (placeLocalResult_tables p code n s)

theorem presentLocally_moves {p : Presentation} {d : Decision} {s : State}
    (h : ownerDecision p.client p.ticket p.serial p.seat s = some d) : Moves s (presentLocally p d s) := by
  refine (applyDecision_moves h).trans ?_
  unfold presentLocally
  dsimp only
  split
  · next hd =>
    refine Moves.behindSame (localAdmitted_moves ?_) (placeLocalResult_tables p .admitted 0 _)
    obtain ⟨-, hconfig, -, -, hseats⟩ := tables_eq_iff.1
      (placeLocalResult_tables p .admitted 0 (applyDecision p.client p.seat d s))
    rw [checkedInBy_congr hconfig hseats]
    exact applyDecision_admitted h hd
  · exact refuseLocally_moves _ _ _ _

theorem startClaim_moves (p : Presentation) (owner : Nat) (s : State) : Moves s (startClaim p owner s) := by
  unfold startClaim
  split
  · exact refuseLocally_moves _ _ _ _
  · dsimp only
    split
    · exact .same rfl
    · exact Moves.behindSame (claimantFallback_moves _ _) (placeOwnerResult_tables _ _ _ _ _ _ _)

theorem presentActive_moves (c : NodeConfig) (r : Record) (p : Presentation) (s : State) :
    Moves s (presentActive c r p s) := by
  unfold presentActive
  split
  · exact refuseLocally_moves _ _ _ _
  · split
    · exact refuseLocally_moves _ _ _ _
    · split
      · exact refuseLocally_moves _ _ _ _
      · split
        · refine Relation.ReflTransGen.trans (updateRecord_moves fun x _ => ?_) (refuseLocally_moves _ _ _ _)
          exact ⟨⟨rfl, fun h1 h2 => ⟨h1, h2⟩, fun _ => Nat.min_le_left _ _, .inl, fun h => .inl ⟨h, rfl⟩⟩,
            .inr (.inr (.inr ⟨rfl, .inl rfl⟩)), .inl ⟨rfl, rfl⟩⟩
        · split
          · next h => exact presentLocally_moves h
          · split
            · exact startClaim_moves _ _ _
            · exact refuseLocally_moves _ _ _ _

theorem present_moves (p : Presentation) (s : State) : Moves s (present p s) := by
  refine (restartIdle_moves p.client s).trans ?_
  unfold present
  dsimp only
  split
  · split
    · exact presentActive_moves _ _ _ _
    · exact Moves.same (placeLocalResult_tables _ _ _ _)
  · exact Moves.same (placeLocalResult_tables _ _ _ _)

theorem relayResult_moves (k : Claim) (code : CheckinCode) (s : State) : Moves s (relayResult k code s) := by
  unfold relayResult
  dsimp only
  split
  · refine Relation.ReflTransGen.trans (derived_moves fun r => ?_) (claimantFallback_moves _ _)
    exact ⟨rfl, rfl, rfl, rfl, rfl, rfl, fun h1 h2 => ⟨h1, h2⟩⟩
  · exact claimantFallback_moves _ _

/-- R106: the end of a claim. -/
theorem endClaim_moves (k : Claim) (code : CheckinCode) (n : Nat) (s : State) : Moves s (endClaim k code n s) := by
  refine Moves.behindSame (t := dropClaim k.client s) ?_ (dropClaim_tables k.client s)
  unfold endClaim
  dsimp only
  split
  · exact .refl
  · split
    · exact Moves.behindSame (relayResult_moves _ _ _) (placeOwnerResult_tables _ _ _ _ _ _ _)
    · exact .refl

theorem takeVerdict_moves (source : Nat) (v : VerdictPayload) (s : State) : Moves s (takeVerdict source v s) := by
  unfold takeVerdict
  split
  · split
    · exact endClaim_moves _ _ _ _
    · exact .refl
  · exact .refl

theorem takeClaim_moves (source dest : Nat) (c : ClaimPayload) (s : State) : Moves s (takeClaim source dest c s) := by
  unfold takeClaim
  split
  · split
    · exact .same rfl
    · next h => exact (applyDecision_moves h).andSame (queueFrame_tables _ _ _)
  · exact .refl

/-! ## Seat entitlements (R79 to R91) -/

/-- R83: the search for another entry with the number finds one, if there is one. -/
theorem otherHolder_none {index number : Nat} {s : State} (h : otherHolder index number s = none) :
    TicketFree index number s := by
  intro i hi hne
  simp only [otherHolder, List.find?_eq_none, List.mem_range] at h
  simpa [hne] using h i hi

theorem otherHolder_some {index number j : Nat} {s : State} (h : otherHolder index number s = some j) :
    j ≠ index ∧ ((s.ens.seats[j]?).bind fun e => e.standing.ticketNumber) = some number := by
  simpa using List.find?_some h

/-- R83: the ticket rule, before an entry is written with the number. -/
theorem placeTicket_moves {c : NodeConfig} {index number : Nat} {e : SeatEntry} {apply : State → State} {s : State}
    (hc : s.cfl.config = some c) (he : e.standing.ticketNumber = some number)
    (happly : ∀ x, (apply x).tables = (replaceSeat c index e x).tables) : Moves s (placeTicket c index number apply s) := by
  unfold placeTicket
  cases h : otherHolder index number s with
  | none =>
    refine Moves.andSame (.single (.seatReplaced c index e hc fun n hn => .inr ?_)) (happly s)
    cases he.symm.trans hn
    exact otherHolder_none h
  | some j =>
    dsimp only
    split
    · exact .same rfl
    · obtain ⟨hne, hfrom⟩ := otherHolder_some h
      exact Moves.andSame (.single (.ticketMoved c e hc hne hfrom he)) (happly _)

/-- R87, R88: an entry is written that keeps its ticket. -/
theorem replaceSeat_moves {c : NodeConfig} {index : Nat} {e e' : SeatEntry} {s : State} (hc : s.cfl.config = some c)
    (he : s.ens.seats[index]? = some e) (hn : e'.standing.ticketNumber = e.standing.ticketNumber) :
    Moves s (replaceSeat c index e' s) :=
  .single (.seatReplaced c index e' hc fun n h => .inl (by simpa [he] using hn.symm.trans h))

theorem applyIssue_moves {c : NodeConfig} {index : Nat} {e : SeatEntry} {a : Entitlement} {s : State}
    (hc : s.cfl.config = some c) : Moves s (applyIssue c index e a s) := by
  unfold applyIssue
  split
  · exact placeTicket_moves hc rfl fun _ => rfl
  · exact placeTicket_moves hc rfl fun _ => rfl
  · exact placeTicket_moves hc rfl fun _ => rfl
  · exact placeTicket_moves hc rfl fun _ => rfl

theorem applyVoid_moves {c : NodeConfig} {index : Nat} {e : SeatEntry} {a : Entitlement} {s : State}
    (hc : s.cfl.config = some c) (he : s.ens.seats[index]? = some e) : Moves s (applyVoid c index e a s) := by
  unfold applyVoid
  split
  · exact placeTicket_moves hc rfl fun _ => rfl
  · next hst => exact replaceSeat_moves hc he (by simp [hst, Standing.ticketNumber])
  · next hst => exact replaceSeat_moves hc he (by simp [hst, Standing.ticketNumber])
  · next hst => exact replaceSeat_moves hc he (by simp [hst, Standing.ticketNumber])

theorem applyClear_moves {c : NodeConfig} {index : Nat} {e : SeatEntry} {a : Entitlement} {s : State}
    (hc : s.cfl.config = some c) (he : s.ens.seats[index]? = some e) : Moves s (applyClear c index e a s) := by
  unfold applyClear
  split
  · next hst => exact replaceSeat_moves hc he (by simp [hst, Standing.ticketNumber])
  · exact .refl
  · exact .refl
  · exact .refl

theorem fillStanding_number (now : Nat) (a : Entitlement) : (fillStanding now a).ticketNumber = some a.ticket.number := by
  unfold fillStanding
  split <;> rfl

/-- R80, R83: a fill writes an EMPTY entry, with a number that no other entry holds. -/
theorem applyFill_moves {c : NodeConfig} {index : Nat} {e : SeatEntry} {a : Entitlement} {s : State}
    (hc : s.cfl.config = some c) (he : s.ens.seats[index]? = some e) : Moves s (applyFill index e a s) := by
  unfold applyFill
  split
  · next hst =>
    split
    · exact .same rfl
    · next hother =>
      let filled : SeatEntry := { standing := fillStanding s.sck.time a, revision := a.revision, duplicates := 0 }
      have hwrite : replaceSeat c index filled s = writeSeat index filled s := by
        simp [replaceSeat, he, hst]
      change Moves s (writeSeat index filled s)
      rw [← hwrite]
      refine .single (.seatReplaced c index filled hc fun n hn => .inr ?_)
      cases (fillStanding_number s.sck.time a).symm.trans hn
      exact otherHolder_none (by simpa using hother)
  · exact .refl
  · exact .refl
  · exact .refl

theorem takeEntitlement_moves (a : Entitlement) (s : State) : Moves s (takeEntitlement a s) := by
  unfold takeEntitlement
  split
  · exact .refl
  · split
    · next c index hc _ =>
      split
      · next e he =>
        unfold decideEntitlement
        split_ifs
        · exact applyFill_moves hc he
        · exact .same rfl
        · exact .same rfl
        · unfold applyAction
          split
          · exact applyIssue_moves hc
          · exact applyIssue_moves hc
          · exact applyVoid_moves hc he
          · exact applyClear_moves hc he
          · exact applyFill_moves hc he
      · exact .refl
    · exact .refl

theorem takeFreeze_tables (target : Nat) (mask : BitVec 16) (s : State) : (takeFreeze target mask s).tables = s.tables := by
  unfold takeFreeze
  split <;> rfl

theorem takeUnfreeze_tables (target : Nat) (mask : BitVec 16) (s : State) :
    (takeUnfreeze target mask s).tables = s.tables := by
  unfold takeUnfreeze
  split
  · split <;> rfl
  · rfl

end Sys2Proof.Machine
end

section
/-! The moves that the RBC's reports, the streams, the slots and the frames make. -/
namespace Sys2Proof.Machine

/-! ## The reports of the RBC (R48, R63, R175, R177) -/

theorem grantEnded_moves (lost : Bool) (c : Nat) (s : State) : Moves s (grantEnded lost c s) := by
  unfold grantEnded
  split
  · exact .refl
  · split
    · dsimp only
      split
      · exact removeGranted_moves _ _ _
      · exact (removeGranted_moves lost c s).trans (associate_moves _ _ _)
    · exact .refl

theorem markFrame_moves (tag : Nat) (st : FrameStatus) (s : State) : Moves s (markFrame tag st s) := by
  refine Moves.andSame (.single (.entries (fun e => if e.tag = tag then { e with frame := st } else e) fun e => ?_)) rfl
  split <;> exact ⟨rfl, rfl, rfl⟩

theorem reportSent_moves (f : TxFrame) (s : State) : Moves s (reportSent f s) := by
  unfold reportSent
  split
  · exact grantEnded_moves _ _ _
  · exact markFrame_moves _ _ _

/-- R175: the drop of a frame, whatever it was. -/
theorem reportDropped_moves (f : TxFrame) (s : State) : Moves s (reportDropped f s) := by
  have hentry : ∀ e, entryOf f s = some e →
      Moves s (updateInflight e.client Inflight.dropped s) ∧
        ∃ x ∈ (updateInflight e.client Inflight.dropped s).hoe.inflight, x.client = e.client := fun e he =>
    ⟨updateInflight_moves fun _ => ⟨rfl, rfl, rfl⟩,
      updateInflight_entry (fun _ => rfl) ⟨e, List.mem_of_find?_eq_some he, rfl⟩⟩
  cases hbody : f.body with
  | ctxGrant client since b l =>
    simp only [reportDropped, hbody]
    exact grantEnded_moves _ _ _
  | ctxPull client since n =>
    simp only [reportDropped, hbody]
    split
    · next e he => exact (hentry e he).1.trans (pullAttemptFails_moves (e := e.dropped) (hentry e he).2)
    · exact .refl
  | steerOffer client seat n =>
    simp only [reportDropped, hbody]
    split
    · next e he => exact (hentry e he).1.trans (offerEnds_moves (hentry e he).2)
    · exact .refl
  | checkinClaim client ticket seat serial tier =>
    simp only [reportDropped, hbody]
    split
    · exact Moves.behindSame (endClaim_moves _ _ _ _) rfl
    · exact .refl
  | loadAdvert | ctxNone | ctxHeld | steerAccept | steerDecline | checkinVerdict | checkinNote | incident | resyncRequest =>
    simp only [reportDropped, hbody]
    exact .refl

/-- R177, R200: the move to MUTED. -/
theorem enterMuted_moves (s : State) : Moves s (enterMuted s) := by
  have hmuted : Moves s (mutedState s) :=
    Moves.andSame (.single (.node { s.cfl with node := .muted, listenTimer := none } rfl (.inr (.inl rfl)))) rfl
  have hdropped : ∀ (l : List TxFrame) (t : State), Moves t (l.foldl (fun s f => reportDropped f s) t) := by
    intro l
    induction l with
    | nil => exact fun _ => .refl
    | cons f l ih => exact fun t => (reportDropped_moves f t).trans (ih _)
  exact hmuted.trans (hdropped _ _)

/-! ## Streams and slots (R117 to R151) -/

theorem removeStream_moves (stream : Nat) (s : State) : Moves s (removeStream stream s) :=
  Moves.andSame (.single (.streamLeft stream)) rfl

theorem finishDraining_moves (stream : Nat) (s : State) : Moves s (finishDraining stream s) := by
  unfold finishDraining
  split
  · exact .refl
  · split
    · exact removeStream_moves _ _
    · exact .same rfl

theorem withdrawStream_moves (stream : Nat) (s : State) : Moves s (withdrawStream stream s) := by
  unfold withdrawStream
  split
  · exact .refl
  · dsimp only
    split
    · exact .same rfl
    · exact Moves.behindSame (removeStream_moves _ _) (updateStream_tables _ _ _)

theorem takeAnnounce_moves (a : Announce) (s : State) : Moves s (takeAnnounce a s) := by
  unfold takeAnnounce
  split
  · exact .refl
  · split
    · exact .refl
    · split
      · split
        · exact .refl
        · split
          · exact withdrawStream_moves _ _
          · exact .same rfl
      · split
        · exact .refl
        · split
          · exact .same rfl
          · split <;> exact .same rfl

theorem takeChunkWithoutRecord_tables (st : Stream) (c : Chunk) (s : State) :
    (takeChunkWithoutRecord st c s).tables = s.tables := by
  unfold takeChunkWithoutRecord createSegment
  repeat' split
  all_goals rfl

theorem takeSegment_tables (c : Chunk) (s : State) : (takeSegment c s).tables = s.tables := by
  unfold takeSegment
  split
  · rfl
  · split
    · rfl
    · split
      · rfl
      · split
        · exact takeChunkWithoutRecord_tables _ _ _
        · split
          · split <;> rfl
          · split
            · exact takeChunkWithoutRecord_tables _ _ _
            · rfl

theorem gapDrop_tables (s : State) : (gapDrop s).tables = s.tables := by
  unfold gapDrop
  rw [raiseGaps_eq]
  rfl

theorem endSegment_moves (id q : Nat) (s : State) : Moves s (endSegment id q s) := by
  rw [endSegment_eq]
  dsimp only
  split
  · split
    · exact Moves.behindSame (finishDraining_moves _ _) rfl
    · exact .same rfl
  · exact .same rfl

theorem emitChunk_moves (p : Place) (r : SegmentRecord) (i : Nat) (s : State) : Moves s (emitChunk p r i s) := by
  unfold emitChunk
  dsimp only
  split
  · exact Moves.behindSame (endSegment_moves _ _ _) rfl
  · exact .same rfl

theorem emitNext_moves (p : Place) (st : Stream) (s : State) : Moves s (emitNext p st s) := by
  have hcut : (lagCut p.stream st.cursor.lastSent (spendBehind p.stream st.cursor.lastSent s)).tables = s.tables := by
    have hbehind : (spendBehind p.stream st.cursor.lastSent s).tables = s.tables := by
      unfold spendBehind
      split <;> rfl
    rw [← hbehind]
    unfold lagCut
    dsimp only
    split <;> rfl
  unfold emitNext
  dsimp only
  split
  · exact Moves.behindSame (emitChunk_moves _ _ _ _) hcut
  · refine .same (Eq.trans ?_ hcut)
    unfold underrun
    dsimp only
    split <;> rfl

theorem handleSlot_moves (s : State) : Moves s (handleSlot s) := by
  unfold handleSlot
  split
  · exact .refl
  · split
    · exact .refl
    · split
      · exact .refl
      · unfold emitSlot
        split
        · exact emitNext_moves _ _ _
        · split
          · exact emitChunk_moves _ _ _ _
          · exact .refl

theorem startFrame_moves (s : State) : Moves s (startFrame s) :=
  Moves.behindSame (handleSlot_moves _)
    ((gapDrop_tables _).trans ((withRpc_tables _ _).trans ((recompute_tables _).trans rfl)))

theorem rebuild_tables (s : State) : (rebuild s).tables = s.tables := by
  rw [rebuild_eq]
  rfl

theorem replayReset_moves (s : State) : Moves s (replayReset s) := by
  have hfinished : ∀ (l : List Nat) (t : State), Moves t (l.foldl (fun s id => finishDraining id s) t) := by
    intro l
    induction l with
    | nil => exact fun _ => .refl
    | cons a l ih => exact fun t => (finishDraining_moves a t).trans (ih _)
  unfold replayReset
  split
  · exact (hfinished _ s).andSame rfl
  · exact .refl

/-! ## The row bus (R165 to R174) -/

theorem takeAdvert_tables (source : Nat) (a : AdvertPayload) (s : State) : (takeAdvert source a s).tables = s.tables := by
  unfold takeAdvert
  split <;> rfl

theorem takeClock_tables (t : Nat) (f : Option Phase) (s : State) : (takeClock t f s).tables = s.tables := by
  unfold takeClock takeTime takePhase
  dsimp only
  repeat' split
  all_goals rfl

/-- R167: a frame that is routed. -/
theorem route_moves (kind : Byte) (source dest : Nat) (p : List Byte) (s : State) : Moves s (route kind source dest p s) := by
  unfold route
  split
  case h_1 => split; exacts [.same (takeAdvert_tables _ _ _), .refl]
  case h_2 => split; exacts [takePull_moves _ _ _ _, .refl]
  case h_3 => split; exacts [takeGrant_moves _ _ _, .refl]
  case h_4 => split; exacts [takeNone_moves _ _ _, .refl]
  case h_5 => split; exacts [takeHeld_moves _ _ _, .refl]
  case h_6 => split; exacts [takeOffer_moves _ _ _ _, .refl]
  case h_7 => split; exacts [takeAccept_moves _ _ _, .refl]
  case h_8 => split; exacts [takeDecline_moves _ _ _, .refl]
  case h_9 => split; exacts [takeClaim_moves _ _ _ _, .refl]
  case h_10 => split; exacts [takeVerdict_moves _ _ _, .refl]
  case h_11 => split; exacts [.same (takeClock_tables _ _ _), .refl]
  case h_12 => split; exacts [takeEntitlement_moves _ _, .refl]
  case h_13 => split; exacts [.same (takeFreeze_tables _ _ _), .refl]
  case h_14 => split; exacts [.same (takeUnfreeze_tables _ _ _), .refl]
  case h_15 => split; exacts [takeAnnounce_moves _ _, .refl]
  case h_16 => split; exacts [.same (takeSegment_tables _ _), .refl]
  case h_17 => exact .refl

theorem settleFrame_moves (kind : Byte) (f : BusFrame) (s : State) : Moves s (settleFrame kind f s) := by
  unfold settleFrame
  split
  · exact .same rfl
  · split
    · unfold addressClash
      dsimp only
      split
      · exact Moves.behindSame (enterMuted_moves _) (raise_tables _ _)
      · exact .same rfl
    · split
      · exact route_moves _ _ _ _ _
      · exact .refl

/-- R165: a frame reaches the node. -/
theorem receive_moves (kind : Byte) (f : BusFrame) (s : State) : Moves s (receive kind f s) := by
  unfold receive
  split
  · exact .refl
  · split
    · exact Moves.behindSame (settleFrame_moves _ _ _) rfl
    · exact .same rfl

theorem collide_moves (t : Transmitter) (s : State) : Moves s (collide t s) := by
  unfold collide
  dsimp only
  split
  · exact Moves.behindSame (reportDropped_moves _ _) rfl
  · exact .same rfl

end Sys2Proof.Machine
end

section
/-! Every step makes moves only; the invariants of the association table, of the seats and of the handoffs are kept by every step. -/
namespace Sys2Proof.Machine

/-! ## The commands -/

/-- A command that answers one state makes the moves to it. -/
theorem moves_of_next {s u t : State} (h : Host.Outcome.next (φ := Fault) (ρ := Refusal) u = .next t) (hm : Moves s u) :
    Moves s t := by
  cases h
  exact hm

/-- R181: the taking of a request. -/
theorem takeRequest_moves {α : Type} {kind : Nat} {read : List Byte → Option α} {act : α → State → State} {s t : State}
    (h : takeRequest kind read act s = .next t) (hact : ∀ a u, Moves u (act a u)) : Moves s t := by
  unfold takeRequest at h
  split at h
  · exact moves_of_next h .refl
  · split at h
    · exact moves_of_next h (.same rfl)
    · exact moves_of_next h (Moves.behindSame (hact _ _) (popRequest_tables s))

theorem takeNotice_moves {op : Nat → Bool} {act : BitVec 32 → Ntu → Ntu} {s t : State}
    (h : takeNotice op act s = .next t) : Moves s t := by
  unfold takeNotice at h
  split at h
  · exact moves_of_next h .refl
  · split at h
    · split at h <;> exact moves_of_next h (.same rfl)
    · exact moves_of_next h .refl

/-- R70: the steer hold's expiry. -/
theorem execSteerHoldExpiry_moves {c : Nat} {s t : State} (h : execSteerHoldExpiry c s = .next t) : Moves s t := by
  unfold execSteerHoldExpiry at h
  split at h
  · exact moves_of_next h .refl
  · next r hr =>
    split at h
    · next ht =>
      refine moves_of_next h (Moves.andSame (.single (.changed _ (findRecord_mem hr) ?_ (.inl rfl)
        (.inr ⟨.inr ht, ?_, by simp⟩))) (countSteerFailure_tables _))
      · exact ⟨rfl, fun h1 h2 => ⟨h1, h2⟩, fun h => h, fun h => .inl h, fun h => .inl ⟨h, rfl⟩⟩
      · simp [Record.linked]
    · exact moves_of_next h .refl

/-- R57, R69: a response timer's expiry. -/
theorem responseExpiry_moves {kind : InflightKind} {c : Nat} {act : Inflight → State → State} {s : State}
    (hact : ∀ e u, (∃ x ∈ u.hoe.inflight, x.client = e.client) → Moves u (act e u)) :
    Moves s (responseExpiry kind c act s) := by
  unfold responseExpiry
  split
  · exact .refl
  · next e he =>
    split
    · have hmem := List.mem_of_find?_eq_some he
      refine Relation.ReflTransGen.trans (updateInflight_moves (f := fun e => { e with timer := none })
        fun _ => ⟨rfl, rfl, rfl⟩) (hact e _ (updateInflight_entry (fun _ => rfl) ⟨e, hmem, rfl⟩))
    · exact .refl

/-- R193, R194, R198: the image. -/
theorem execImageReadComplete_moves {image : List Byte} {s t : State} (h : execImageReadComplete image s = .next t) :
    Moves s t := by
  unfold execImageReadComplete at h
  split at h
  · next hnode =>
    dsimp only at h
    split at h
    · exact moves_of_next h (.single (.node _ rfl (.inr (.inr ⟨rfl, hnode.1⟩))))
    · refine moves_of_next h ?_
      have hstart : Moves (listeningState (readImage (image.take imageLength)) s)
          (enterListening (readImage (image.take imageLength)) s) :=
        Moves.behindSame (startFrame_moves _) (recompute_tables _)
      exact hstart.head (.configured _ hnode.1)
  · exact moves_of_next h .refl

theorem enterJoined_moves (c : NodeConfig) (s : State) : Moves s (enterJoined c s) :=
  Moves.andSame (.single (.node { s.cfl with node := .joined, listenTimer := none } rfl (.inl rfl)))
    ((withPrm_tables _ _).trans ((queueAdvert_tables _).trans (queueFrame_tables _ _ _)))

/-- What every command but the frames, the requests and those above can do to the tables. -/
theorem exec_moves {i : Instr} {s t : State} (h : exec i s = .next t) : Moves s t := by
  cases i with
  | fullReset strap => exact moves_of_next h (.single (.reset rfl))
  | imageReadComplete image => exact execImageReadComplete_moves h
  | imageReadFailed =>
    simp only [exec, execImageReadFailed] at h
    split at h
    · next hnode => exact moves_of_next h (.single (.node _ rfl (.inr (.inr ⟨rfl, hnode⟩))))
    · exact moves_of_next h .refl
  | listenTimerExpiry =>
    simp only [exec, execListenTimerExpiry] at h
    split at h
    · exact moves_of_next h .refl
    · next c _ => split at h <;> [exact moves_of_next h (enterJoined_moves c s); exact moves_of_next h .refl]
  | siteTimeTick =>
    simp only [exec, execSiteTimeTick] at h
    split at h <;> exact moves_of_next h (.same rfl)
  | frameStart =>
    simp only [exec, execFrameStart] at h
    split at h
    · exact moves_of_next h (startFrame_moves s)
    · exact moves_of_next h .refl
  | slotStart =>
    simp only [exec, execSlotStart] at h
    split at h
    · exact moves_of_next h (Moves.behindSame (handleSlot_moves _) rfl)
    · exact moves_of_next h .refl
  | lastSlotStart =>
    simp only [exec, execLastSlotStart] at h
    split at h
    · exact moves_of_next h (Moves.andSame (Moves.behindSame (handleSlot_moves (startSlot (s.sls.slot + 1) s)) rfl) (rebuild_tables _))
    · exact moves_of_next h .refl
  | advertTimerExpiry =>
    simp only [exec, execAdvertTimerExpiry] at h
    split at h
    · exact moves_of_next h .refl
    · exact moves_of_next h (Moves.behindSame (steerEvaluate_moves _) (queueAdvert_tables _))
  | holdOffTimerExpiry =>
    simp only [exec, execHoldOffTimerExpiry] at h
    split at h
    · exact moves_of_next h .refl
    · refine moves_of_next h (.same ?_)
      split
      · exact queueAdvert_tables _
      · rfl
  | ageTimerExpiry station =>
    simp only [exec, execAgeTimerExpiry] at h
    split at h
    · exact moves_of_next h .refl
    · split at h <;> exact moves_of_next h (.same rfl)
  | declineHoldExpiry station => exact moves_of_next h (.same rfl)
  | idleTimerExpiry c =>
    simp only [exec, execIdleTimerExpiry] at h
    split at h
    · exact moves_of_next h .refl
    · split at h
      · exact moves_of_next h .refl
      · exact moves_of_next h ((removeRecord_moves c s).andSame (astPlace_tables _ _))
  | claimantTimerExpiry c =>
    simp only [exec, execClaimantTimerExpiry] at h
    split at h
    · exact moves_of_next h .refl
    · split at h
      · exact moves_of_next h ((removeRecord_moves c s).andSame (astPlace_tables _ _))
      · exact moves_of_next h .refl
  | expectationHoldExpiry c =>
    simp only [exec, execExpectationHoldExpiry] at h
    split at h
    · exact moves_of_next h .refl
    · split at h
      · exact moves_of_next h (removeRecord_moves c s)
      · exact moves_of_next h .refl
  | steerHoldExpiry c => exact execSteerHoldExpiry_moves h
  | pullResponseTimeout c =>
    exact moves_of_next h (responseExpiry_moves fun _ _ he => pullAttemptFails_moves he)
  | offerResponseTimeout c =>
    exact moves_of_next h (responseExpiry_moves fun _ _ he => offerEnds_moves he)
  | claimTimerExpiry c =>
    simp only [exec, execClaimTimerExpiry] at h
    split at h
    · exact moves_of_next h .refl
    · split at h
      · exact moves_of_next h (endClaim_moves _ _ _ _)
      · exact moves_of_next h .refl
  | jamWatchExpiry =>
    simp only [exec, execJamWatchExpiry] at h
    split at h <;> exact moves_of_next h (.same rfl)
  | txStart idle =>
    simp only [exec, execTxStart] at h
    split at h
    · split at h
      · exact moves_of_next h (Moves.behindSame (markFrame_moves _ _ _) rfl)
      · exact moves_of_next h (.same rfl)
    · exact moves_of_next h .refl
  | backoffEnd =>
    simp only [exec, execBackoffEnd] at h
    split at h
    · exact moves_of_next h .refl
    · split at h <;> exact moves_of_next h (.same rfl)
  | retryAttemptStart idle =>
    simp only [exec, execRetryAttemptStart] at h
    split at h
    · exact moves_of_next h .refl
    · split at h
      · split at h <;> exact moves_of_next h (.same rfl)
      · exact moves_of_next h .refl
  | collision =>
    simp only [exec, execCollision] at h
    split at h
    · exact moves_of_next h .refl
    · split at h
      · exact moves_of_next h (collide_moves _ _)
      · exact moves_of_next h .refl
  | frameSent =>
    simp only [exec, execFrameSent] at h
    split at h
    · exact moves_of_next h .refl
    · split at h
      · exact moves_of_next h (Moves.behindSame (reportSent_moves _ _) rfl)
      · exact moves_of_next h .refl
  | loadAdvert f | ctxPull f | ctxGrant f | ctxNone f | ctxHeld f | steerOffer f | steerAccept f | steerDecline f
  | checkinClaim f | checkinVerdict f | checkinNote f | incident f | resyncRequest f | issue f | reissue f | void f
  | clearCheckin f | resyncFill f | invalidEntitlementCode f | freeze f | unfreeze f | clock f | streamAnnounce f
  | segment f | unknownKindFrame kind f => exact moves_of_next h (receive_moves _ _ _)
  | linkRecordArrival kind body check =>
    simp only [exec, execLinkRecordArrival] at h
    split at h <;> exact moves_of_next h (.same rfl)
  | associate => exact takeRequest_moves h (associate_moves false)
  | heard => exact takeRequest_moves h (fun a u => takeHeard_moves a.1 a.2 u)
  | depart => exact takeRequest_moves h takeDepart_moves
  | presentTicket => exact takeRequest_moves h present_moves
  | subscribe => exact takeRequest_moves h (fun a u => subscribe_moves a.1 a.2 u)
  | unsubscribe => exact takeRequest_moves h (fun a u => unsubscribe_moves a.1 a.2 u)
  | replayReset => exact takeRequest_moves h (fun _ => replayReset_moves)
  | statusQuery => exact takeRequest_moves h (fun _ _ => .same rfl)
  | enable => exact takeNotice_moves (op := (· == 0)) h
  | disable => exact takeNotice_moves (op := (· == 1)) h
  | ack => exact takeNotice_moves (op := (· == 2)) h
  | globalOn => exact takeNotice_moves (op := (· == 3)) (act := fun _ n => { n with globalEnable := true }) h
  | globalOff => exact takeNotice_moves (op := (· == 4)) (act := fun _ n => { n with globalEnable := false }) h
  | clearAll => exact takeNotice_moves (op := (· == 5)) h
  | noticeControlBadOperation => exact takeNotice_moves (op := fun op => decide (5 < op)) (act := fun _ n => n) h
  | unknownKindRecord =>
    simp only [exec, execUnknownKindRecord] at h
    split at h
    · exact moves_of_next h .refl
    · split at h <;> exact moves_of_next h (.same rfl)
  | recordTaken =>
    simp only [exec, execRecordTaken] at h
    split at h <;> exact moves_of_next h (.same rfl)
  | basebandReady ready => exact moves_of_next h (.same rfl)
  | hoeBacklogMove =>
    simp only [exec, execHoeBacklogMove] at h
    split at h
    · exact moves_of_next h .refl
    · split at h <;> exact moves_of_next h (.same rfl)
  | ckuBacklogMove =>
    simp only [exec, execCkuBacklogMove] at h
    split at h
    · exact moves_of_next h .refl
    · split at h <;> exact moves_of_next h (.same rfl)
  | astBacklogMove =>
    simp only [exec, execAstBacklogMove] at h
    split at h
    · exact moves_of_next h .refl
    · split at h <;> exact moves_of_next h (.same rfl)
  | streamEnded =>
    simp only [exec, execStreamEnded] at h
    split at h
    · exact moves_of_next h .refl
    · split at h <;> exact moves_of_next h (.same rfl)
  | noticeDelivery =>
    simp only [exec, execNoticeDelivery] at h
    split at h
    · exact moves_of_next h .refl
    · split at h <;> exact moves_of_next h (.same rfl)
  | waitQueueHead =>
    simp only [exec, execWaitQueueHead] at h
    split at h
    · exact moves_of_next h .refl
    · split at h
      · exact moves_of_next h (Moves.behindSame (associate_moves _ _ _) rfl)
      · exact moves_of_next h .refl
  | carrierStart => exact moves_of_next h (.same rfl)
  | carrierEnd run =>
    simp only [exec, execCarrierEnd] at h
    split at h
    · split at h <;> exact moves_of_next h (.same rfl)
    · exact moves_of_next h (receive_moves _ _ _)

/-- Every step makes moves only. -/
theorem step_moves {s t : State} (h : step s = .next t) : Moves s t := by
  unfold step at h
  split at h
  · exact moves_of_next h .refl
  · exact Moves.behindSame (exec_moves h) (withPending_tables _ _)

/-- Settles O27: every move keeps the bounds of the association table. -/
theorem tableInvKept : Obligations.TableInvKept :=
  fun _ _ hs h => (step_moves h).tableInv hs

/-- Settles O28: every move keeps the ground of the HOME records, and one seat for a ticket number. -/
theorem seatInvariantsKept : Obligations.SeatInvariantsKept :=
  fun _ _ h => ⟨fun htable hs => (step_moves h).homeInv htable hs, fun hs => (step_moves h).ticketInv hs⟩

/-- Settles O30: every move keeps one in-flight entry for each PULLING and OFFERING record. -/
theorem handoffInvKept : Obligations.HandoffInvKept :=
  fun _ _ htable hs h => (step_moves h).handoffInv htable hs

end Sys2Proof.Machine
end

section
/-! The requests about a record that the table holds: HEARD, DEPART, SUBSCRIBE and UNSUBSCRIBE, and the records' own timers (R34 to R43,
R73). -/
namespace Sys2Proof.Machine

/-! ## One record becomes another -/

@[simp] theorem requestGone_cfl (rest : List LinkRecord) (s : State) : (requestGone rest s).cfl = s.cfl := rfl
@[simp] theorem requestGone_prm (rest : List LinkRecord) (s : State) : (requestGone rest s).prm = s.prm := rfl
@[simp] theorem requestGone_nbt (rest : List LinkRecord) (s : State) : (requestGone rest s).nbt = s.nbt := rfl
@[simp] theorem requestGone_ast (rest : List LinkRecord) (s : State) : (requestGone rest s).ast = s.ast := rfl
@[simp] theorem requestGone_hoe (rest : List LinkRecord) (s : State) : (requestGone rest s).hoe = s.hoe := rfl
@[simp] theorem requestGone_ens (rest : List LinkRecord) (s : State) : (requestGone rest s).ens = s.ens := rfl
@[simp] theorem requestGone_cku (rest : List LinkRecord) (s : State) : (requestGone rest s).cku = s.cku := rfl
@[simp] theorem requestGone_rpc (rest : List LinkRecord) (s : State) : (requestGone rest s).rpc = s.rpc := rfl
@[simp] theorem requestGone_sls (rest : List LinkRecord) (s : State) : (requestGone rest s).sls = s.sls := rfl
@[simp] theorem requestGone_sck (rest : List LinkRecord) (s : State) : (requestGone rest s).sck = s.sck := rfl
@[simp] theorem requestGone_rbc (rest : List LinkRecord) (s : State) : (requestGone rest s).rbc = s.rbc := rfl
@[simp] theorem requestGone_rsl (rest : List LinkRecord) (s : State) :
    (requestGone rest s).rsl = { s.rsl with inbound := rest } := rfl

/-- R22: a record that becomes itself leaves the state as it is. -/
theorem recordBecomes_self {c : Nat} {r : Record} {s : State} (h : findRecord c s = some r)
    (hn : (s.ast.records.map Record.client).Nodup) : recordBecomes c r s = s := by
  have hid : updateRecord c id s = s := by
    have hl : s.ast.records.map (fun x => if x.client = c then id x else x) = s.ast.records := by simp
    rw [updateRecord, hl]
    rfl
  exact (updateRecord_found h hn id).symm.trans hid

/-- R22: the changed record is the one found for the client. -/
theorem findRecord_recordBecomes {c : Nat} {r r' : Record} {s : State} (h : findRecord c s = some r) (hc : r'.client = c) :
    findRecord c (recordBecomes c r' s) = some r' := by
  obtain ⟨-, hr⟩ := findRecord_mem h
  have htest : ((fun x : Record => x.client == c) ∘ fun x => if x.client = c then r' else x) = fun x => x.client == c := by
    funext x
    by_cases hx : x.client = c <;> simp [hx, hc]
  have hfind : s.ast.records.find? (fun x => x.client == c) = some r := h
  simp only [findRecord, recordBecomes, State.withAst_ast, List.find?_map, htest, hfind, Option.map_some, if_pos hr]

/-- R22: a change of a record leaves the clients of the records as they are. -/
theorem recordBecomes_clients {c : Nat} {r' : Record} (s : State) (hc : r'.client = c) :
    (recordBecomes c r' s).ast.records.map Record.client = s.ast.records.map Record.client := by
  simp only [recordBecomes, State.withAst_ast, List.map_map]
  refine List.map_congr_left fun x _ => ?_
  by_cases hx : x.client = c <;> simp [hx, hc]

theorem recordBecomes_twice {c : Nat} {r r' : Record} (s : State) (hc : r.client = c) :
    recordBecomes c r' (recordBecomes c r s) = recordBecomes c r' s := by
  simp only [recordBecomes, State.withAst_ast, State.withAst_twice, List.map_map]
  congr 2
  refine List.map_congr_left fun x _ => ?_
  by_cases hx : x.client = c <;> simp [hx, hc]

/-- R22: a second change of a record, by a function. -/
theorem updateRecord_recordBecomes {c : Nat} {r r' : Record} {s : State} (h : findRecord c s = some r)
    (hn : (s.ast.records.map Record.client).Nodup) (hc : r'.client = c) (f : Record → Record) :
    updateRecord c f (recordBecomes c r' s) = recordBecomes c (f r') s := by
  rw [updateRecord_found (findRecord_recordBecomes h hc) (by rwa [recordBecomes_clients s hc]), recordBecomes_twice s hc]

/-! ## HEARD (R34) -/

/-- R32: a heard list as it is stored. -/
theorem normaliseHeard_spec (own : Nat) (l : List Nat) :
    (∀ a, a ∈ normaliseHeard own l ↔ a ∈ l ∧ a ≠ 0 ∧ a ≤ 31 ∧ a ≠ own) ∧ (normaliseHeard own l).Nodup ∧
      ∀ k, normaliseHeard own (l.take k) <+: normaliseHeard own l := by
  refine ⟨fun a => by simp [normaliseHeard, mem_distinct], distinct_nodup _, fun k => ?_⟩
  have hsplit : l.filter (fun a => a ≠ 0 ∧ a ≤ 31 ∧ a ≠ own) =
      (l.take k).filter (fun a => a ≠ 0 ∧ a ≤ 31 ∧ a ≠ own) ++ (l.drop k).filter fun a => a ≠ 0 ∧ a ≤ 31 ∧ a ≠ own := by
    rw [← List.filter_append, List.take_append_drop]
  rw [normaliseHeard, normaliseHeard, hsplit]
  exact distinct_prefix _ _

theorem served_iff (st : RecordState) : st.served = true ↔ st = .active ∨ st = .offering ∨ st = .steered := by
  cases st <;> simp [RecordState.served]

theorem exec_heard {body : List Byte} {client : Nat} {l : List Nat} {rest : List LinkRecord} {s : State}
    (h : RequestNext 65 body rest s) (hb : readHeard body = some (client, l)) :
    exec .heard s = .next (takeHeard client l (requestGone rest s)) :=
  takeRequest_next readHeard (fun a => takeHeard a.1 a.2) (by omega) h hb

/-- R34: the record that a HEARD makes of a client's record. -/
def heardRecord (l : List Nat) (r : Record) : Record :=
  if r.state.served then { r with heard := l, idle := some 120000 } else if r.state = .pulling then { r with heard := l } else r

theorem takeHeard_found {client : Nat} {l : List Nat} {r : Record} {s : State} (h : findRecord client s = some r)
    (hn : (s.ast.records.map Record.client).Nodup) :
    takeHeard client l s = recordBecomes client (heardRecord (normaliseHeard s.station l) r) s :=
  updateRecord_found h hn (heardRecord (normaliseHeard s.station l))

/-- Settles O20, by the state of the client's record. -/
theorem heardReplacesList : Obligations.HeardReplacesList := by
  intro body client l rest s hnext hbody hn
  obtain ⟨hmem, hnodup, hprefix⟩ := normaliseHeard_spec s.station l
  have hexec := exec_heard hnext hbody
  have hfound : ∀ r, findRecord client s = some r → exec .heard s =
      .next (recordBecomes client (heardRecord (normaliseHeard s.station l) r) (requestGone rest s)) := fun r hr =>
    hexec.trans (congrArg _ (takeHeard_found (s := requestGone rest s) hr hn))
  refine ⟨normaliseHeard s.station l, ⟨hmem, hnodup, rfl, hprefix⟩, fun r hr hst => ?_, fun r hr hst => ?_,
    fun r hr hst => ?_, fun hr => ?_⟩
  · rw [hfound r hr, heardRecord, if_pos ((served_iff _).2 hst)]
  · rw [hfound r hr, heardRecord, if_neg (by simp [hst, RecordState.served]), if_pos hst]
  · have hkept : heardRecord (normaliseHeard s.station l) r = r := by
      rcases hst with hst | hst <;> simp [heardRecord, RecordState.served, hst]
    rw [hfound r hr, hkept, recordBecomes_self (s := requestGone rest s) hr hn]
  · exact hexec.trans (congrArg _ (updateRecord_absent (s := requestGone rest s) hr _))

/-! ## Removals (R35 to R38, R73) -/

theorem recordGone_backlogs (r : Record) (s : State) :
    (recordGone r s).hoe.backlog = s.hoe.backlog ∧ (recordGone r s).cku.backlog = s.cku.backlog ∧
      (recordGone r s).rsl = s.rsl := by
  unfold recordGone
  dsimp only
  split <;> exact ⟨rfl, rfl, rfl⟩

/-- R184: the AST's record goes to the lane where a place is free and no earlier source waits. -/
theorem astPlace_lane (x : OutRecord) {s : State} (hl : s.rsl.lane.length < 64) (h1 : s.hoe.backlog = [])
    (h2 : s.cku.backlog = []) (h3 : s.rsl.astBacklog = []) : astPlace x s = placeOnLane x s :=
  if_pos ⟨by simp [laneRoom, laneLimit, hl], h1, h2, h3⟩

theorem astPlace_full (x : OutRecord) {s : State} (hl : 64 ≤ s.rsl.lane.length) :
    astPlace x s = s.withRsl { s.rsl with astBacklog := s.rsl.astBacklog ++ [x] } :=
  if_neg fun h => by simp only [laneRoom, laneLimit] at h; omega

/-- R184: the AST's record about a client whose record is gone. -/
theorem astPlace_gone (x : OutRecord) (r : Record) {s : State} (hl : s.rsl.lane.length < 64) (h1 : s.hoe.backlog = [])
    (h2 : s.cku.backlog = []) (h3 : s.rsl.astBacklog = []) :
    astPlace x (recompute (recordGone r s)) = placeOnLane x (recompute (recordGone r s)) := by
  obtain ⟨hh, hk, hr⟩ := recordGone_backlogs r s
  exact astPlace_lane x (by simpa [hr] using hl) (by simpa [hh] using h1) (by simpa [hk] using h2) (by simpa [hr] using h3)

theorem exec_depart {body : List Byte} {client : Nat} {rest : List LinkRecord} {s : State} (h : RequestNext 66 body rest s)
    (hb : readDepart body = some client) : exec .depart s = .next (takeDepart client (requestGone rest s)) :=
  takeRequest_next readDepart takeDepart (by omega) h hb

/-- Settles O25, event by event. -/
theorem recordRemoved : Obligations.RecordRemoved := by
  intro r s hr hsubs gone free
  have hgone : removeRecord r.client s = gone s := removeRecord_eq hr hsubs
  refine ⟨fun body rest hnext hbody => ⟨fun hst => ?_, fun hst => ?_⟩, fun hidle hfree => ?_, fun hidle hfull => ?_,
    fun ht hfree => ?_, fun ht => ?_⟩
  · have hne : ¬ (r.state = .releasing ∨ r.state = .expected) := by rcases hst with h | h | h | h <;> simp [h]
    have hrec : findRecord r.client (requestGone rest s) = some r := hr
    rw [exec_depart hnext hbody, takeDepart, hrec]
    simp only [if_neg hne]
    exact congrArg _ (removeRecord_eq hrec hsubs)
  · have hrec : findRecord r.client (requestGone rest s) = some r := hr
    rw [exec_depart hnext hbody, takeDepart, hrec]
    simp only [if_pos (Or.symm hst)]
  · obtain ⟨hl, h1, h2, h3⟩ := hfree
    simp only [exec, execIdleTimerExpiry, hr, Option.isNone_iff_eq_none, Option.isSome_iff_ne_none.1 hidle, if_false, hgone]
    exact congrArg _ (astPlace_gone _ r hl h1 h2 h3)
  · have hrsl : (gone s).rsl = s.rsl := (recompute_rsl _).trans (recordGone_backlogs r s).2.2
    refine ⟨(gone s).withRsl { s.rsl with astBacklog := s.rsl.astBacklog ++ [.dropClient r.client .idle] }, ?_, rfl, rfl⟩
    simp only [exec, execIdleTimerExpiry, hr, Option.isNone_iff_eq_none, Option.isSome_iff_ne_none.1 hidle, if_false, hgone]
    rw [astPlace_full _ (by rwa [hrsl]), hrsl]
  · obtain ⟨hl, h1, h2, h3⟩ := hfree
    simp only [exec, execClaimantTimerExpiry, hr, ht, if_true, hgone]
    exact congrArg _ (astPlace_gone _ r hl h1 h2 h3)
  · simp only [exec, execExpectationHoldExpiry, hr, ht, if_true, hgone]

/-! ## Subscriptions (R42, R43) -/

theorem restartIdle_served {client : Nat} {r : Record} {s : State} (h : findRecord client s = some r)
    (hn : (s.ast.records.map Record.client).Nodup) (hst : r.state.served = true) :
    restartIdle client s = recordBecomes client { r with idle := some 120000 } s :=
  (updateRecord_found h hn _).trans (by simp only [hst, if_true]; rfl)

theorem restartIdle_unserved {client : Nat} {r : Record} {s : State} (h : findRecord client s = some r)
    (hn : (s.ast.records.map Record.client).Nodup) (hst : ¬ r.state.served = true) : restartIdle client s = s :=
  (updateRecord_found h hn _).trans ((congrArg (recordBecomes client · s) (if_neg hst)).trans (recordBecomes_self h hn))

theorem restartIdle_absent {client : Nat} {s : State} (h : findRecord client s = none) : restartIdle client s = s :=
  updateRecord_absent h _

/-- R42, R43: an answer that leaves the subscriptions as they are. -/
theorem subscribe_refused {client stream : Nat} {code : SubscribeCode} {s x : State} (h : subscribeCode client stream s = code)
    (hc : code ≠ .subscribed)
    (hx : restartIdle client s = x) : subscribe client stream s = placeOnLane (.subscribeResult client stream code) x := by
  simp only [subscribe, h, if_neg hc, hx]

theorem unsubscribe_refused {client stream : Nat} {code : SubscribeCode} {s x : State}
    (h : unsubscribeCode client stream s = code) (hc : code ≠ .unsubscribed)
    (hx : restartIdle client s = x) : unsubscribe client stream s = placeOnLane (.subscribeResult client stream code) x := by
  simp only [unsubscribe, h, if_neg hc, hx]

/-- R42, R124: a stream that the list of an ACTIVE record gains. -/
theorem subscribe_subscribed {client stream : Nat} {r : Record} {s : State} (hr : findRecord client s = some r)
    (hn : (s.ast.records.map Record.client).Nodup) (hst : r.state = .active)
    (h : subscribeCode client stream s = .subscribed) :
    subscribe client stream s = placeOnLane (.subscribeResult client stream .subscribed) (gainSubscriber stream
      (recordBecomes client { r with idle := some 120000, subs := r.subs ++ [stream] } s)) := by
  have hc : r.client = client := (findRecord_mem hr).2
  simp only [subscribe, h, if_true, restartIdle_served hr hn ((served_iff _).2 (.inl hst))]
  refine congrArg _ (congrArg _ (updateRecord_recordBecomes hr hn ?_ _))
  exact hc

/-- R43, R125: a stream that the list of a served record loses. -/
theorem unsubscribe_unsubscribed {client stream : Nat} {r : Record} {s : State} (hr : findRecord client s = some r)
    (hn : (s.ast.records.map Record.client).Nodup) (hst : r.state.served = true)
    (h : unsubscribeCode client stream s = .unsubscribed) :
    unsubscribe client stream s = placeOnLane (.subscribeResult client stream .unsubscribed) (loseSubscriber stream
      (recordBecomes client { r with idle := some 120000, subs := r.subs.filter fun x => x ≠ stream } s)) := by
  have hc : r.client = client := (findRecord_mem hr).2
  simp only [unsubscribe, h, if_true, restartIdle_served hr hn hst]
  refine congrArg _ (congrArg _ (updateRecord_recordBecomes hr hn ?_ _))
  exact hc

theorem exec_subscribe {body : List Byte} {client stream : Nat} {rest : List LinkRecord} {s : State}
    (h : RequestNext 68 body rest s) (hb : readSubscribe body = some (client, stream)) :
    exec .subscribe s = .next (subscribe client stream (requestGone rest s)) :=
  takeRequest_next readSubscribe (fun a => subscribe a.1 a.2) (by omega) h hb

theorem exec_unsubscribe {body : List Byte} {client stream : Nat} {rest : List LinkRecord} {s : State}
    (h : RequestNext 69 body rest s) (hb : readSubscribe body = some (client, stream)) :
    exec .unsubscribe s = .next (unsubscribe client stream (requestGone rest s)) :=
  takeRequest_next readSubscribe (fun a => unsubscribe a.1 a.2) (by omega) h hb

/-- R124: a stream after one subscriber more. -/
theorem gained_spec (now slots : Nat) (st : Stream) :
    (st.gained now slots).subscribers = st.subscribers + 1 ∧ (st.gained now slots).cursor = st.cursor ∧
      (st.gained now slots).withdrawn = st.withdrawn ∧
      (st.gained now slots).state = (match st.state with
        | .idle => .wanted
        | .draining => if st.withdrawn = true then .draining else if slots = 0 then .starved else .live
        | x => x) ∧
      (st.gained now slots).wantedSince = (if st.state = .idle then some now else st.wantedSince) := by
  cases hst : st.state
  case draining =>
    by_cases hw : st.withdrawn = true
    · simp [Stream.gained, hst, hw]
    · rcases Nat.eq_zero_or_pos slots with rfl | hslots
      · simp [Stream.gained, hst, hw]
      · simp [Stream.gained, hst, hw, hslots, Nat.pos_iff_ne_zero.1 hslots]
  all_goals simp [Stream.gained, hst]

/-- R125: a stream after one subscriber less. -/
theorem lost_spec (st : Stream) (h : 0 < st.subscribers) :
    st.lost.subscribers = st.subscribers - 1 ∧ st.lost.cursor = st.cursor ∧ st.lost.withdrawn = st.withdrawn ∧
      (1 < st.subscribers → st.lost.state = st.state ∧ st.lost.wantedSince = st.wantedSince) ∧
      (st.subscribers = 1 → st.cursor.current.isSome → st.lost.wantedSince = st.wantedSince ∧
        st.lost.state = if st.state = .idle then .idle else .draining) ∧
      (st.subscribers = 1 → st.cursor.current = none →
        (st.state = .wanted ∨ st.state = .live ∨ st.state = .starved →
          st.lost.state = .idle ∧ st.lost.wantedSince = none)) := by
  rcases (show 1 < st.subscribers ∨ st.subscribers = 1 by omega) with hsubs | hsubs
  · have hne : st.subscribers ≠ 1 := by omega
    simp [Stream.lost, hsubs, hne]
  · cases hcur : st.cursor.current <;> cases hst : st.state <;> simp [Stream.lost, Stream.midSegment, hsubs, hcur, hst]

/-- Settles O26, by the first check that fails. -/
theorem subscriptionsAnswered : Obligations.SubscriptionsAnswered := by
  refine ⟨?_, fun now slots st => ⟨gained_spec now slots st, lost_spec st⟩⟩
  intro body client stream rest s hbody hn u answer served counted
  have hsub : ∀ {x}, subscribe client stream u = x → RequestNext 68 body rest s → exec .subscribe s = .next x :=
    fun hx h => (exec_subscribe h hbody).trans (congrArg _ hx)
  have hunsub : ∀ {x}, unsubscribe client stream u = x → RequestNext 69 body rest s → exec .unsubscribe s = .next x :=
    fun hx h => (exec_unsubscribe h hbody).trans (congrArg _ hx)
  have hnu : (u.ast.records.map Record.client).Nodup := hn
  refine ⟨fun hr => ?_, fun r hr => ?_⟩
  · have hru : findRecord client u = none := hr
    have hcode : subscribeCode client stream u = .notAssociated := by simp [subscribeCode, hru]
    have hcode' : unsubscribeCode client stream u = .notAssociated := by simp [unsubscribeCode, hru]
    exact ⟨hsub (subscribe_refused hcode (by decide) (restartIdle_absent hru)),
      hunsub (unsubscribe_refused hcode' (by decide) (restartIdle_absent hru))⟩
  intro r'
  have hru : findRecord client u = some r := hr
  have hserved : served r ↔ r.state.served = true := (served_iff _).symm
  have hrefused : ∀ {code : SubscribeCode}, served r → subscribeCode client stream u = code → code ≠ .subscribed →
      RequestNext 68 body rest s → exec .subscribe s = answer code (recordBecomes client r' u) := fun hst hcode hne hnext =>
    hsub (subscribe_refused hcode hne (restartIdle_served hru hnu (hserved.1 hst))) hnext
  refine ⟨fun hnext => ⟨fun hst => ?_, fun hst => ?_, fun hst => ⟨fun hf => ?_, fun st hf => ⟨fun hw => ?_, fun hw => ⟨fun hin => ?_,
    fun hin hfull => ?_, fun hin hroom => ?_⟩⟩⟩⟩, fun hnext => ⟨fun hst => ?_, fun hst hin => ?_, fun hst hin => ?_⟩⟩
  · have hne : r.state ≠ .active := fun h => hst (.inl h)
    have hcode : subscribeCode client stream u = .notAssociated := by simp [subscribeCode, hru, hne]
    exact hsub (subscribe_refused hcode (by decide) (restartIdle_unserved hru hnu (mt hserved.2 hst))) hnext
  · refine hrefused (.inr hst) ?_ (by decide) hnext
    rcases hst with hst | hst <;> simp [subscribeCode, hru, hst]
  · have hfu : findStream stream u = none := hf
    exact hrefused (.inl hst) (by simp [subscribeCode, hru, hst, hfu]) (by decide) hnext
  · have hfu : findStream stream u = some st := hf
    exact hrefused (.inl hst) (by simp [subscribeCode, hru, hst, hfu, hw]) (by decide) hnext
  · have hfu : findStream stream u = some st := hf
    exact hrefused (.inl hst) (by simp [subscribeCode, hru, hst, hfu, hw, hin]) (by decide) hnext
  · have hfu : findStream stream u = some st := hf
    exact hrefused (.inl hst) (by simp [subscribeCode, hru, hst, hfu, hw, hin, hfull]) (by decide) hnext
  · have hfu : findStream stream u = some st := hf
    have hcode : subscribeCode client stream u = .subscribed := by
      simp [subscribeCode, hru, hst, hfu, hw, hin, Nat.not_le.2 hroom]
    exact hsub (subscribe_subscribed (r := r) hru hnu hst hcode) hnext
  · have hcode : unsubscribeCode client stream u = .notAssociated := by simp [unsubscribeCode, hru, mt hserved.2 hst]
    exact hunsub (unsubscribe_refused hcode (by decide) (restartIdle_unserved hru hnu (mt hserved.2 hst))) hnext
  · have hcode : unsubscribeCode client stream u = .notSubscribed := by simp [unsubscribeCode, hru, hserved.1 hst, hin]
    exact hunsub (unsubscribe_refused hcode (by decide) (restartIdle_served hru hnu (hserved.1 hst))) hnext
  · have hcode : unsubscribeCode client stream u = .unsubscribed := by simp [unsubscribeCode, hru, hserved.1 hst, hin]
    exact hunsub (unsubscribe_unsubscribed (r := r) hru hnu (hserved.1 hst) hcode) hnext

end Sys2Proof.Machine
end

section
/-! The pulls of contexts, at the holder and at the requester (R26, R44, R54 to R63). -/
namespace Sys2Proof.Machine

/-! ## The recompute and the records (R4) -/

theorem queueAdvert_withAst {v : Ast} {s : State} (h : v.records.length = s.ast.records.length) :
    queueAdvert (s.withAst v) = (queueAdvert s).withAst v := by
  have hframe : ∀ c, currentAdvert c (s.withAst v) = currentAdvert c s := fun c => by
    simp [currentAdvert, State.clients, h]
  unfold queueAdvert
  simp only [State.withAst_cfl, hframe]
  split
  · rfl
  · split <;> rfl

theorem triggerAdvert_withAst {v : Ast} {s : State} (h : v.records.length = s.ast.records.length) :
    triggerAdvert (s.withAst v) = (triggerAdvert s).withAst v := by
  unfold triggerAdvert
  rw [State.withAst_prm, queueAdvert_withAst h]
  split <;> rfl

/-- R4: a recompute reads of the records their number only. -/
theorem recompute_withAst {v : Ast} {s : State} (h : v.records.length = s.ast.records.length) :
    recompute (s.withAst v) = (recompute s).withAst v := by
  cases hc : s.cfl.config with
  | none => simp [recompute, hc]
  | some c =>
    have hev : evaluated c (s.withAst v) = (evaluated c s).withAst v := by
      simp only [evaluated, State.clients, State.withAst_ast, h]
      rfl
    have hlen : v.records.length = (evaluated c s).ast.records.length := h
    rw [recompute_evaluated hc, recompute_evaluated (s := s.withAst v) hc, hev]
    rw [State.withAst_prm, State.withAst_prm, triggerAdvert_withAst hlen]
    split <;> rfl

theorem recompute_updateRecord (c : Nat) (f : Record → Record) (s : State) :
    recompute (updateRecord c f s) = updateRecord c f (recompute s) := by
  rw [updateRecord, recompute_withAst (by simp), updateRecord, recompute_ast]

/-! ## The derivation of a class (R26) -/

/-- R26: the record whose class has been derived. -/
def derivedRecord (ground : Bool) (r : Record) : Record :=
  if ground = true then if r.cls = .home then r else { r.stopClaimant with cls := .home }
  else if r.cls = .home then { r with cls := .claimant, timer := claimantStart r } else r

@[simp] theorem derivedRecord_client (ground : Bool) (r : Record) : (derivedRecord ground r).client = r.client := by
  unfold derivedRecord
  split_ifs <;> rfl

/-- R26: the derivation, as a change of the one record; only a change of class recomputes. -/
theorem deriveClass_becomes {client : Nat} {r : Record} {s : State} (h : findRecord client s = some r)
    (hn : (s.ast.records.map Record.client).Nodup) :
    deriveClass client s =
      let r' := derivedRecord (groundOf client r.binding s) r
      if r'.cls = r.cls then recordBecomes client r' s else recompute (recordBecomes client r' s) := by
  have hself := recordBecomes_self h hn
  rw [deriveClass_found h]
  by_cases hg : groundOf client r.binding s = true <;> by_cases hh : r.cls = .home
  · simp [derivedRecord, hg, hh, hself]
  · have hne : ¬ ClientClass.home = r.cls := fun he => hh he.symm
    simp [derivedRecord, hg, hh, hne, updateRecord_found h hn]
  · simp [derivedRecord, hg, hh, updateRecord_found h hn]
  · simp [derivedRecord, hg, hh, hself]

/-! ## The end of an in-flight entry (R49) -/

/-- R49: a client without an entry has none to end. -/
theorem inflightGone_absent {c : Nat} {s : State} (h : ∀ e ∈ s.hoe.inflight, e.client ≠ c) : inflightGone c s = s := by
  have hfind : findInflight c s = none := by simpa [findInflight] using h
  rw [← dropInflight_eq, dropInflight, hfind]

theorem inflightGone_twice (c : Nat) (s : State) : inflightGone c (inflightGone c s) = inflightGone c s :=
  inflightGone_absent fun e he => by simpa using (List.mem_filter.1 he).2

/-- R37, R49: the removal of a PULLING record ends its entry. -/
theorem recordGone_inflightGone {r : Record} {s : State} (h : r.state = .pulling) :
    recordGone r (inflightGone r.client s) = recordGone r s := by
  have hcommute : ∀ t : State, recordGone r t = claimGone r.client
      (((inflightGone r.client t).withAst { t.ast with records := t.ast.records.filter fun x => x.client ≠ r.client }).withRpc
        { t.rpc with streams := t.rpc.streams.map fun st => if st.id ∈ r.subs then st.lost else st }) := fun t => by
    simp only [recordGone, h, true_or, if_true]
    rfl
  rw [hcommute, hcommute, inflightGone_twice]
  rfl

/-! ## The holder of a pull (R60 to R63) -/

theorem exec_ctxPull {source client since : Nat} {f : BusFrame} {s : State} (h : FrameTaken 2 source f s)
    (hr : readPull f.payload = some (client, since)) :
    exec (.ctxPull f) s = .next (takePull source client since (carrierEnded s)) := by
  have hroute : route 2#8 source f.dest.toNat f.payload (carrierEnded s) = takePull source client since (carrierEnded s) := by
    simp [route, hr]
  exact congrArg Host.Outcome.next ((receive_taken h).trans hroute)

/-- R61: a pull that is abandoned. -/
theorem abandonPull_eq {source client : Nat} {r : Record} {s : State} (hr : findRecord client s = some r)
    (hs : r.subs.Nodup) (hst : r.state = .pulling) :
    abandonPull source client s = urgentOffered source (.ctxNone client)
      (raise .contextLost (hoePlace (.dropClient client .moved) (recompute (recordGone r s)))) := by
  obtain ⟨-, rfl⟩ := findRecord_mem hr
  rw [abandonPull, queueFrame_urgent_eq _ _ _ rfl, dropInflight_eq, removeRecord_eq (s := inflightGone r.client s) hr hs,
    recordGone_inflightGone hst]

/-- R60: the state in which the grant of a context is offered. -/
theorem grantReleased_eq {source since : Nat} {r : Record} {s : State} (hr : findRecord r.client s = some r)
    (hn : (s.ast.records.map Record.client).Nodup) :
    grantReleased source since r s = recordBecomes r.client (releasedRecord source since r)
      (if r.state = .offering then inflightGone r.client s else s) := by
  unfold grantReleased
  split
  · rw [dropInflight_eq]
    exact updateRecord_found (s := inflightGone r.client s) hr hn _
  · exact updateRecord_found hr hn _

/-- R60: a grant that the RBC accepts. -/
theorem grantContext_accepted {source since : Nat} {r : Record} {s : State} (hj : s.cfl.node = .joined)
    (hroom : (grantReleased source since r s).rbc.urgent.length < 8) :
    grantContext source since r s =
      urgentOffered source (.ctxGrant r.client r.since r.binding r.subs) (grantReleased source since r s) := by
  have hjt : (grantReleased source since r s).cfl.node = .joined := by
    unfold grantReleased
    split <;> simpa using hj
  obtain ⟨ha, -⟩ := queueFrame_urgent source (.ctxGrant r.client r.since r.binding r.subs) _ hjt rfl rfl hroom
  rw [grantContext_eq, ← queueFrame_urgent_eq _ _ _ rfl]
  simp only [ha, Option.isSome_some, if_true]

/-- R48, R63: a grant that the RBC refuses ends at once. -/
theorem grantContext_refused {source since : Nat} {r : Record} {s : State} (hj : s.cfl.node = .joined)
    (hfull : 8 ≤ (grantReleased source since r s).rbc.urgent.length) :
    grantContext source since r s = removeGranted true r.client ((grantReleased source since r s).withRbc
      { (grantReleased source since r s).rbc with
        txDrops := min 65535 ((grantReleased source since r s).rbc.txDrops + 1) }) := by
  have hjt : (grantReleased source since r s).cfl.node = .joined := by
    unfold grantReleased
    split <;> simpa using hj
  obtain ⟨ha, hq⟩ := queueFrame_urgent_full source (.ctxGrant r.client r.since r.binding r.subs) _ hjt rfl rfl hfull
  rw [grantContext_eq]
  simp only [ha, Option.isSome_none, Bool.false_eq_true, if_false, hq]
  rfl

/-- R62: what a served record makes of a pull. -/
theorem takePull_served {source client since : Nat} {r : Record} {s : State} (hj : s.cfl.node = .joined)
    (hr : findRecord client s = some r) (hst : r.state = .active ∨ r.state = .offering ∨ r.state = .steered) :
    takePull source client since s =
      if { station := source, since := since } ∈ r.granted then queueFrame source (.ctxNone client) s
      else if s.sck.phase = .unknown ∨ r.since < since then grantContext source since r s
      else queueFrame source (.ctxHeld client) s := by
  rcases hst with hst | hst | hst <;> simp only [takePull, hj, if_true, hr, hst]

/-- R61, R62: what a PULLING record makes of a pull. -/
theorem takePull_pulling {source client since : Nat} {r : Record} {s : State} (hj : s.cfl.node = .joined)
    (hr : findRecord client s = some r) (hst : r.state = .pulling) :
    takePull source client since s =
      if r.since < since then abandonPull source client s else queueFrame source (.ctxHeld client) s := by
  simp only [takePull, hj, if_true, hr, hst]

/-- Settles O31, by the record that the node holds. -/
theorem ctxPullDecided : Obligations.CtxPullDecided := by
  intro source client since f s hf hread htable u answers
  obtain ⟨-, hn, -, -, hrecords⟩ := htable
  have hexec := exec_ctxPull hf hread
  have hanswers : ∀ {body : OutFrame} {x : State}, body.isUrgent = true → takePull source client since u = queueFrame source body x →
      answers body x := fun hu hx => hexec.trans (congrArg _ (hx.trans (queueFrame_urgent_eq _ _ _ hu)))
  refine ⟨fun hj => hexec.trans (congrArg _ (if_neg hj)), fun hj => ⟨fun hr => hanswers rfl ?_, fun r hr => ?_⟩⟩
  · have hru : findRecord client u = none := hr
    have hju : u.cfl.node = .joined := hj
    simp only [takePull, hju, if_true, hru]
  have hru : findRecord client u = some r := hr
  have hju : u.cfl.node = .joined := hj
  obtain ⟨hmem, hc⟩ := findRecord_mem hr
  obtain ⟨-, hsubs, -⟩ := hrecords r hmem
  refine ⟨fun hst => hanswers rfl ?_, fun hst => hanswers rfl ?_, fun hst hle => hanswers rfl ?_, fun hst hlt => ?_, fun hst => ?_⟩
  · simp only [takePull, hju, if_true, hru, hst]
  · simp only [takePull, hju, if_true, hru, hst]
    subst hc
    rw [removeRecord_eq hru hsubs]
  · exact (takePull_pulling hju hru hst).trans (if_neg (Nat.not_lt.2 hle))
  · exact hexec.trans (congrArg _ (((takePull_pulling hju hru hst).trans (if_pos hlt)).trans (abandonPull_eq hru hsubs hst)))
  · have hserved := takePull_served (source := source) (since := since) hju hru hst
    intro pull
    refine ⟨fun hin => hanswers rfl (hserved.trans (if_pos hin)), fun hin hp hle => hanswers rfl ?_, fun hin hlt => ?_⟩
    · have hno : ¬ (u.sck.phase = .unknown ∨ r.since < since) := not_or.2 ⟨hp, Nat.not_lt.2 hle⟩
      exact hserved.trans ((if_neg hin).trans (if_neg hno))
    have hgrants : takePull source client since u = grantContext source since r u :=
      hserved.trans ((if_neg hin).trans (if_pos hlt))
    subst hc
    have hreleased := grantReleased_eq (source := source) (since := since) hru hn
    refine ⟨fun hroom => ?_, fun hfull => ?_⟩
    · have hacc := grantContext_accepted (source := source) (since := since) (r := r) hju (by rw [hreleased]; exact hroom)
      rw [hreleased] at hacc
      exact hexec.trans (congrArg _ (hgrants.trans hacc))
    · have href := grantContext_refused (source := source) (since := since) (r := r) hju (by rw [hreleased]; exact hfull)
      rw [hreleased] at href
      refine hexec.trans (congrArg _ (hgrants.trans (href.trans ?_)))
      exact congrArg (raise .contextLost) (removeRecord_eq (r := releasedRecord source since r)
        (findRecord_recordBecomes (s := if r.state = .offering then inflightGone r.client u else u)
          (by split <;> exact hru) rfl) hsubs)

end Sys2Proof.Machine
end

section
/-! R58: a CTX_GRANT installs the context granted. -/
namespace Sys2Proof.Machine

/-! ## The streams of a context (R44) -/

theorem findStream_isSome (id : Nat) (s : State) : (findStream id s).isSome = true ↔ ∃ st ∈ s.rpc.streams, st.id = id := by
  simp [findStream]

/-- R201: a grant names at most 4 streams. -/
theorem readGrant_streams {p : List Byte} {g : GrantPayload} (h : readGrant p = some g) : g.streams.length ≤ 4 := by
  simp only [readGrant] at h
  split at h
  · next hp =>
    obtain ⟨hlen, hn, -⟩ := hp
    cases h
    simp [hlen, hn]
  · cases h

/-- R44: the streams of a list of at most 4 that are in the stream table. -/
theorem keptStreams_spec {l : List Nat} (s : State) (h : l.length ≤ 4) :
    (∀ id, id ∈ keptStreams l s ↔ id ∈ l ∧ ∃ st ∈ s.rpc.streams, st.id = id) ∧ (keptStreams l s).Nodup ∧
      (keptStreams l s).Sublist l := by
  have hsub : ((distinct l).filter fun id => (findStream id s).isSome).Sublist l :=
    List.filter_sublist.trans (distinct_sublist l)
  have hall : keptStreams l s = (distinct l).filter fun id => (findStream id s).isSome :=
    List.take_of_length_le (hsub.length_le.trans h)
  refine ⟨fun id => ?_, (keptStreams_sound l s).2, hall ▸ hsub⟩
  rw [hall, List.mem_filter, mem_distinct, findStream_isSome]

/-- R44: the streams of a list of at most 4 that are not in the stream table. -/
theorem droppedStreams_spec {l : List Nat} (s : State) (h : l.length ≤ 4) :
    (∀ id, id ∈ droppedStreams l s ↔ id ∈ l ∧ ∀ st ∈ s.rpc.streams, st.id ≠ id) ∧ (droppedStreams l s).Nodup ∧
      (droppedStreams l s).Sublist l := by
  refine ⟨fun id => ?_, (distinct_nodup l).filter _, List.filter_sublist.trans (distinct_sublist l)⟩
  simp only [droppedStreams, List.mem_filter, mem_distinct, decide_eq_true_eq, (keptStreams_spec s h).1]
  simp +contextual

@[simp] theorem Stream.gained_id (now slots : Nat) (st : Stream) : (st.gained now slots).id = st.id := by
  unfold Stream.gained
  cases st.state <;> dsimp only
  split <;> rfl

/-- R124: the streams of a list after one subscriber more for each. -/
def gainedStreams (l : List Nat) (s : State) : List Stream :=
  s.rpc.streams.map fun st => if st.id ∈ l then st.gained s.sck.time (slotsInForce st.id s) else st

/-- R124: each stream of a list without repeats gains one subscriber. -/
theorem gainAll_eq (l : List Nat) (s : State) (h : l.Nodup) :
    l.foldl (fun s id => gainSubscriber id s) s = s.withRpc { s.rpc with streams := gainedStreams l s } := by
  induction l generalizing s with
  | nil => simp [gainedStreams]; rfl
  | cons a l ih =>
    obtain ⟨ha, hl⟩ := List.nodup_cons.1 h
    rw [List.foldl_cons, ih _ hl]
    have hstreams : gainedStreams l (gainSubscriber a s) = gainedStreams (a :: l) s := by
      simp only [gainedStreams, gainSubscriber, updateStream, State.withRpc_rpc, List.map_map]
      refine List.map_congr_left fun st _ => ?_
      by_cases hst : st.id = a
      · simp [hst, ha]
      · simp [hst]
        rfl
    rw [hstreams]
    rfl

/-! ## The grant (R58) -/

/-- R58, R44: the record with the context granted, before its class is derived. -/
def grantedRecord (g : GrantPayload) (kept : List Nat) (r : Record) : Record :=
  { r with since := g.since, binding := if g.binding.isSome then g.binding else r.binding, subs := kept }

/-- R57 to R59: a record whose pull has ended. -/
def activeRecord (r : Record) : Record := { r with state := .active, peer := none, idle := some 120000 }

theorem installStreams_eq {c : Nat} {l : List Nat} {r r' : Record} {s : State} (h : findRecord c s = some r)
    (hn : (s.ast.records.map Record.client).Nodup) (hc : r'.client = c) :
    installStreams c l (recordBecomes c r' s) =
      (recordBecomes c { r' with subs := keptStreams l s } s).withRpc
        { s.rpc with streams := gainedStreams (keptStreams l s) s } := by
  have hkept : keptStreams l (recordBecomes c r' s) = keptStreams l s := rfl
  simp only [installStreams, hkept, updateRecord_recordBecomes h hn hc, gainAll_eq _ _ (keptStreams_sound l s).2]
  rfl

theorem recompute_findRecord (c : Nat) (s : State) : findRecord c (recompute s) = findRecord c s := by
  simp [findRecord]

/-- R58: a matching CTX_GRANT. -/
theorem takeGrant_matches {source : Nat} {g : GrantPayload} {e : Inflight} {r : Record} {s : State}
    (ht : takesReplies s = true) (he : EntryMatches .pull source g.client e s) (hr : findRecord g.client s = some r)
    (hn : (s.ast.records.map Record.client).Nodup) :
    let kept := keptStreams g.streams s
    let r1 := grantedRecord g kept r
    let r2 := derivedRecord (groundOf g.client r1.binding s) r1
    let y := (recordBecomes g.client (activeRecord r2) (inflightGone g.client s)).withRpc
      { s.rpc with streams := gainedStreams kept s }
    takeGrant source g s = hoePlace (.assocResult g.client .acceptedWithContext (some r2.cls) none (droppedStreams g.streams s))
      (if r2.cls = r.cls then y else recompute y) := by
  intro kept r1 r2 y
  have hc : r.client = g.client := (findRecord_mem hr).2
  let v := inflightGone g.client s
  have hrv : findRecord g.client v = some r := hr
  let w := (recordBecomes g.client r1 v).withRpc { s.rpc with streams := gainedStreams kept s }
  have hwr : findRecord g.client w = some r1 := findRecord_recordBecomes (r' := r1) hrv hc
  have hwn : (w.ast.records.map Record.client).Nodup := (recordBecomes_clients (r' := r1) v hc).symm ▸ hn
  have hground : groundOf g.client r1.binding w = groundOf g.client r1.binding s := by
    cases r1.binding <;> simp [groundOf, checkedInBy_congr (s := s) (t := w) rfl rfl]
  have hy : recordBecomes g.client (activeRecord r2) w = y := by
    have htwice := recordBecomes_twice (r := r1) (r' := activeRecord r2) v hc
    exact congrArg (fun x : State => x.withRpc { s.rpc with streams := gainedStreams kept s }) htwice
  have hinstalled : installStreams g.client g.streams (updateRecord g.client
      (fun r => { r with since := g.since, binding := if g.binding.isSome then g.binding else r.binding }) v) = w := by
    rw [updateRecord_found hrv hn]
    exact installStreams_eq hrv hn hc
  have hactive : activateRecord g.client (deriveClass g.client w) = if r2.cls = r.cls then y else recompute y := by
    have hclass : r2.cls = r1.cls ↔ r2.cls = r.cls := Iff.rfl
    rw [deriveClass_becomes hwr hwn, hground]
    have hact : updateRecord g.client activeRecord (recordBecomes g.client r2 w) = y :=
      (updateRecord_recordBecomes hwr hwn ((derivedRecord_client _ r1).trans hc) _).trans hy
    by_cases hsame : r2.cls = r.cls
    · rw [if_pos hsame]
      exact (congrArg (updateRecord g.client activeRecord) (if_pos hsame)).trans hact
    · rw [if_neg hsame, ← hact, recompute_updateRecord]
      exact congrArg (updateRecord g.client activeRecord) (if_neg hsame)
  have hcls : classOf g.client (if r2.cls = r.cls then y else recompute y) = some r2.cls := by
    have hfind : findRecord g.client y = some (activeRecord r2) :=
      findRecord_recordBecomes (r' := activeRecord r2) hrv ((derivedRecord_client _ r1).trans hc)
    split <;> simp [classOf, recompute_findRecord, hfind, activeRecord]
  have hv : dropInflight g.client s = v := dropInflight_eq g.client s
  rw [takeGrant, if_pos (by simp [ht, matching_isSome he]), hv]
  simp only [hinstalled, hactive, hcls]

theorem takeGrant_ignored {source : Nat} {g : GrantPayload} {s : State} (h : ReplyIgnored .pull source g.client s) :
    takeGrant source g s = s := by
  refine if_neg fun hb => ?_
  obtain ⟨ht, hm⟩ := Bool.and_eq_true_iff.1 hb
  rcases h with ⟨hj, hmu⟩ | hno
  · exact ((takesReplies_iff s).1 ht).elim hj hmu
  · simp [matching_none hno] at hm

theorem exec_ctxGrant {source : Nat} {g : GrantPayload} {f : BusFrame} {s : State} (h : FrameTaken 3 source f s)
    (hr : readGrant f.payload = some g) : exec (.ctxGrant f) s = .next (takeGrant source g (carrierEnded s)) := by
  have hroute : route 3#8 source f.dest.toNat f.payload (carrierEnded s) = takeGrant source g (carrierEnded s) := by
    simp [route, hr]
  exact congrArg Host.Outcome.next ((receive_taken h).trans hroute)

/-- R93: the seat of a client's check-in, in a configured node. -/
theorem checkedInBy_configured {c : NodeConfig} {client seat : Nat} {s : State} (hc : s.cfl.config = some c) :
    checkedInBy client seat s = true ↔ c.firstSeat ≤ seat ∧ seat < c.firstSeat + c.seatCount ∧
      ∃ e, s.ens.seats[seat - c.firstSeat]? = some e ∧ ∃ t time, e.standing = .checkedIn t client time := by
  rw [checkedInBy_iff]
  simp only [seatIndex_eq_some hc]
  constructor
  · rintro ⟨i, e, ⟨h1, h2, rfl⟩, he, hst⟩
    exact ⟨h1, h2, e, he, hst⟩
  · rintro ⟨h1, h2, e, he, hst⟩
    exact ⟨_, e, ⟨h1, h2, rfl⟩, he, hst⟩

/-- Settles O32: the class is derived from the binding of the context granted. -/
theorem grantInstallsContext : Obligations.GrantInstallsContext := by
  refine ⟨fun c client seat s hc => checkedInBy_configured hc, fun source g e r f s hf hread => ?_⟩
  have hexec := exec_ctxGrant hf hread
  refine ⟨fun hi => hexec.trans (congrArg _ (takeGrant_ignored hi)), fun hnode he hr hst hn hids => ?_⟩
  have hstreams := readGrant_streams hread
  have hmatches := takeGrant_matches (s := carrierEnded s) ((takesReplies_iff _).2 hnode) he hr hn
  obtain ⟨hkept, hkn, hks⟩ := keptStreams_spec s hstreams
  obtain ⟨hdrop, hdn, hds⟩ := droppedStreams_spec s hstreams
  let r1 := grantedRecord g (keptStreams g.streams s) r
  let r2 := derivedRecord (groundOf g.client r1.binding s) r1
  refine ⟨keptStreams g.streams s, droppedStreams g.streams s, activeRecord r2, hkept, hkn, hks, hdrop, hdn, hds, ?_,
    hexec.trans (congrArg _ hmatches)⟩
  intro b ground
  have hground : ground ↔ groundOf g.client r1.binding s = true := groundOf_iff.symm
  by_cases hg : groundOf g.client r1.binding s = true
  · have hr2 : r2 = if r1.cls = .home then r1 else { r1.stopClaimant with cls := .home } := if_pos hg
    refine ⟨?_, fun _ => ?_, fun h => absurd (hground.2 hg) h, fun h => absurd (hground.2 hg) h⟩
    · rw [hr2]
      split <;> rfl
    · rw [hr2]
      by_cases hh : r.cls = .home <;> simp [r1, grantedRecord, activeRecord, Record.stopClaimant, hh]
  · have hr2 : r2 = if r1.cls = .home then { r1 with cls := .claimant, timer := claimantStart r1 } else r1 := if_neg hg
    refine ⟨?_, fun h => absurd (hground.1 h) hg, fun _ hh => ?_, fun _ hh => ?_⟩
    · rw [hr2]
      split <;> rfl
    · rw [hr2]
      simp [r1, grantedRecord, activeRecord, claimantStart, hh, hst]
    · rw [hr2]
      simp [r1, grantedRecord, activeRecord, hh]

end Sys2Proof.Machine
end

section
/-! The check-in of tickets: the decision on a seat of the block, and the ends of remote claims (R39, R41, R95 to R107). -/
namespace Sys2Proof.Machine

/-! ## Results and falls (R41, R102, R111) -/

/-- R41: a CLAIMANT falls back, and any other record stays. -/
theorem claimantFallback_eq {client : Nat} {r : Record} {s : State} (h : findRecord client s = some r)
    (hn : (s.ast.records.map Record.client).Nodup) (hs : r.subs.Nodup) : claimantFallback client s = fellBack r s := by
  obtain ⟨-, rfl⟩ := findRecord_mem h
  simp only [claimantFallback, h, fellBack, removeRecord_eq h hs, updateRecord_found h hn, ne_eq, ite_not]
  rfl

/-- R184: the CKU's record goes to the lane where a place is free and no earlier source waits. -/
theorem ckuPlace_lane (x : OutRecord) {s : State} (hl : s.rsl.lane.length < 64) (h1 : s.hoe.backlog = [])
    (h2 : s.cku.backlog = []) : ckuPlace x s = placeOnLane x s :=
  if_pos ⟨by simp [laneRoom, laneLimit, hl], h1, h2⟩

/-- R102, R111: a result decided at a configured node. -/
theorem placeLocalResult_lane {p : Presentation} {code : CheckinCode} {n : Nat} {c : NodeConfig} {s : State}
    (hc : s.cfl.config = some c) (hl : s.rsl.lane.length < 64) (h1 : s.hoe.backlog = []) (h2 : s.cku.backlog = []) :
    placeLocalResult p code n s = placeOnLane (.checkinResult p.client p.ticket p.seat code c.station n) s := by
  have hd : decidingStation s = c.station := by simp [decidingStation, hc]
  rw [placeLocalResult, hd, ckuPlace_lane _ hl h1 h2, stationGiven]
  simp [hc]

/-! ## The owner decision (R99 to R101) -/

theorem presented_iff {t : Ticket} {number serial : Nat} :
    t.presented number serial = true ↔ t.number = number ∧ t.serial = serial := by
  simp [Ticket.presented]

/-- R99: the verdict on a seat of the block, by its entry. -/
theorem ownerDecision_entry {client ticket serial q i : Nat} {e : SeatEntry} {s : State} (hi : seatIndex q s = some i)
    (he : s.ens.seats[i]? = some e) : ownerDecision client ticket serial q s = some (decideSeat client ticket serial e.standing) := by
  simp [ownerDecision, seatEntry_eq_some.2 ⟨i, hi, he⟩]

/-- R100: the writes of a check-in. -/
theorem applyDecision_checkIn {client q i : Nat} {t : Ticket} {e : SeatEntry} {s : State} (hi : seatIndex q s = some i)
    (he : s.ens.seats[i]? = some e) :
    applyDecision client q (.checkIn t) s = routineOffered 0 (.checkinNote q t.number client s.sck.time)
      (writeSeat i { e with standing := .checkedIn t client s.sck.time } s) := by
  rw [applyDecision, updateSeat_found _ hi he, queueFrame_routine_eq _ _ _ rfl rfl]
  rfl

/-- R101: the writes of a duplicate. -/
theorem applyDecision_duplicate {client q i holder : Nat} {t : Ticket} {e : SeatEntry} {s : State}
    (hi : seatIndex q s = some i) (he : s.ens.seats[i]? = some e) :
    applyDecision client q (.duplicate t holder) s = routineOffered 0 (.incident q t.number holder client)
      (raise .duplicate (writeSeat i { e with duplicates := min 15 (e.duplicates + 1) } s)) := by
  rw [applyDecision, updateSeat_found _ hi he, queueFrame_routine_eq _ _ _ rfl rfl]
  rfl

/-- R99 to R101: what a decision leaves as it is. -/
theorem applyDecision_frame (client q : Nat) (d : Decision) (s : State) :
    (applyDecision client q d s).cfl = s.cfl ∧ (applyDecision client q d s).ast = s.ast ∧
      (applyDecision client q d s).hoe = s.hoe ∧ (applyDecision client q d s).cku = s.cku ∧
      (applyDecision client q d s).rsl = s.rsl := by
  have hseat : ∀ f : SeatEntry → SeatEntry, (updateSeat q f s).cfl = s.cfl ∧ (updateSeat q f s).ast = s.ast ∧
      (updateSeat q f s).hoe = s.hoe ∧ (updateSeat q f s).cku = s.cku ∧ (updateSeat q f s).rsl = s.rsl := fun f => by
    unfold updateSeat
    split <;> exact ⟨rfl, rfl, rfl, rfl, rfl⟩
  cases d with
  | checkIn t => exact hseat _
  | duplicate t holder => exact hseat _
  | unknownSeat | voided | notCurrent | again => exact ⟨rfl, rfl, rfl, rfl, rfl⟩

/-- R101: the count that a DUPLICATE carries is the one after the increment. -/
theorem verdictCount_duplicate {client q i holder : Nat} {t : Ticket} {e : SeatEntry} {s : State}
    (hi : seatIndex q s = some i) (he : s.ens.seats[i]? = some e) :
    verdictCount q (.duplicate t holder) (applyDecision client q (.duplicate t holder) s) = min 15 (e.duplicates + 1) := by
  have hlt := (List.getElem?_eq_some_iff.1 he).1
  have hens : (applyDecision client q (.duplicate t holder) s).ens.seats =
      s.ens.seats.set i { e with duplicates := min 15 (e.duplicates + 1) } := by
    simp only [applyDecision, updateSeat_found _ hi he]
    rfl
  have hindex : seatIndex q (applyDecision client q (.duplicate t holder) s) = some i := by
    simpa only [seatIndex, (applyDecision_frame client q (.duplicate t holder) s).1] using hi
  have hget : (applyDecision client q (.duplicate t holder) s).ens.seats[i]? =
      some { e with duplicates := min 15 (e.duplicates + 1) } := by simp [hens, hlt]
  have hentry := seatEntry_eq_some.2 ⟨i, hindex, hget⟩
  simp [verdictCount, hentry]

/-! ## A presentation for a seat of the block (R99 to R102) -/

/-- R96: with the first four checks passed, a seat of the block is decided by its entry. -/
theorem presentActive_local {c : NodeConfig} {r : Record} {p : Presentation} {i : Nat} {e : SeatEntry} {s : State}
    (hp : ChecksPassed c r p s) (hi : seatIndex p.seat s = some i) (he : s.ens.seats[i]? = some e) :
    presentActive c r p s = presentLocally p (decideSeat p.client p.ticket p.serial e.standing) s := by
  obtain ⟨hclaim, hbad, hsection, hcode⟩ := hp
  have hcode' : checkCode c.siteKey p = p.code := hcode
  simp only [presentActive, hclaim, Option.isSome_none, Bool.false_eq_true, if_false, badCodeLimit, hbad, hsection, ne_eq,
    not_true, hcode', ownerDecision_entry hi he]

/-- R39, R102: the answer to an ADMITTED at the node, and the record. -/
theorem localAdmitted_found {client : Nat} {b : Binding} {r : Record} {s : State} (h : findRecord client s = some r)
    (hn : (s.ast.records.map Record.client).Nodup) :
    localAdmitted client b s =
      let y := recordBecomes client { r with cls := .home, binding := some b,
                                             timer := if r.timer = some .claimant then none else r.timer } s
      if r.cls = .home then y else recompute y := by
  simp only [localAdmitted, h, updateRecord_found h hn]
  rfl

theorem presentLocally_admitted {p : Presentation} {d : Decision} {c : NodeConfig} {r : Record} {s : State}
    (hd : d.verdict = .admitted) (hc : s.cfl.config = some c) (hl : s.rsl.lane.length < 64) (h1 : s.hoe.backlog = [])
    (h2 : s.cku.backlog = []) (hr : findRecord p.client s = some r) (hn : (s.ast.records.map Record.client).Nodup) :
    presentLocally p d s =
      let y := recordBecomes p.client { r with cls := .home, binding := some { ticket := p.ticket, seat := p.seat },
                                               timer := if r.timer = some .claimant then none else r.timer }
        (placeOnLane (.checkinResult p.client p.ticket p.seat .admitted c.station 0) (applyDecision p.client p.seat d s))
      if r.cls = .home then y else recompute y := by
  obtain ⟨hcfl, hast, hhoe, hcku, hrsl⟩ := applyDecision_frame p.client p.seat d s
  simp only [presentLocally, hd]
  rw [placeLocalResult_lane (c := c) (by rw [hcfl]; exact hc) (by rwa [hrsl]) (by rwa [hhoe]) (by rwa [hcku])]
  exact localAdmitted_found (by simpa only [findRecord, placeOnLane_ast, hast] using hr) (by simpa only [placeOnLane_ast, hast] using hn)

theorem presentLocally_refused {p : Presentation} {d : Decision} {c : NodeConfig} {r : Record} {s : State}
    (hd : d.verdict ≠ .admitted) (hc : s.cfl.config = some c) (hl : s.rsl.lane.length < 64) (h1 : s.hoe.backlog = [])
    (h2 : s.cku.backlog = []) (hr : findRecord p.client s = some r) (hn : (s.ast.records.map Record.client).Nodup)
    (hs : r.subs.Nodup) :
    presentLocally p d s =
      fellBack r (placeOnLane (.checkinResult p.client p.ticket p.seat d.verdict.result c.station
        (verdictCount p.seat d (applyDecision p.client p.seat d s))) (applyDecision p.client p.seat d s)) := by
  obtain ⟨hcfl, hast, hhoe, hcku, hrsl⟩ := applyDecision_frame p.client p.seat d s
  have hrefuses : presentLocally p d s = refuseLocally p d.verdict.result
      (verdictCount p.seat d (applyDecision p.client p.seat d s)) (applyDecision p.client p.seat d s) := by
    unfold presentLocally
    cases hv : d.verdict
    case admitted => exact absurd hv hd
    all_goals rfl
  rw [hrefuses, refuseLocally,
    placeLocalResult_lane (c := c) (by rw [hcfl]; exact hc) (by rwa [hrsl]) (by rwa [hhoe]) (by rwa [hcku])]
  exact claimantFallback_eq (by simpa only [findRecord, placeOnLane_ast, hast] using hr)
    (by simpa only [placeOnLane_ast, hast] using hn) hs

/-- R95: a PRESENT_TICKET about an ACTIVE record. -/
theorem exec_presentTicket_active {c : NodeConfig} {r : Record} {p : Presentation} {body : List Byte} {rest : List LinkRecord}
    {s : State} (h : PresentationNext c r p body rest s) :
    exec .presentTicket s = .next (presentActive c { r with idle := some 120000 } p
      (recordBecomes p.client { r with idle := some 120000 } (requestGone rest s))) := by
  obtain ⟨hnext, hbody, hc, hr, hst, hn⟩ := h
  have hru : findRecord p.client (requestGone rest s) = some r := hr
  have hexec : exec .presentTicket s = .next (present p (requestGone rest s)) :=
    takeRequest_next readPresent present (by omega) hnext hbody
  have hidle := restartIdle_served hru hn ((served_iff _).2 (.inl hst))
  have hfind := findRecord_recordBecomes (r' := { r with idle := some 120000 }) hru (findRecord_mem hr).2
  have hcu : (recordBecomes p.client { r with idle := some 120000 } (requestGone rest s)).cfl.config = some c := hc
  have hact : ({ r with idle := some 120000 } : Record).state = .active := hst
  rw [hexec, present, hidle]
  simp only [hfind, hcu]
  rw [if_pos hact]

/-- Settles O37, by the entry of the seat. -/
theorem presentationDecided : Obligations.PresentationDecided := by
  intro c r p body rest index e s hnext hchecks htable hi he r' u entry result presented admitted refused
  obtain ⟨⟨hin, -, ⟨hl, h1, h2, -⟩, -⟩, -, hc, hr, -, -⟩ := id hnext
  obtain ⟨-, hn, -, -, hrecords⟩ := htable
  obtain ⟨hmem, hrc⟩ := findRecord_mem hr
  obtain ⟨-, hsubs, -⟩ := hrecords r hmem
  have hcu : u.cfl.config = some c := hc
  have hru : findRecord p.client u = some r' :=
    findRecord_recordBecomes (s := requestGone rest s) (r' := r') hr hrc
  have hnu : (u.ast.records.map Record.client).Nodup :=
    (recordBecomes_clients (r' := r') (requestGone rest s) hrc).symm ▸ hn
  have hlu : u.rsl.lane.length < 64 := Nat.lt_of_lt_of_le (Nat.lt_add_of_pos_right (by omega)) hl
  have hexec : exec .presentTicket s = .next (presentLocally p (decideSeat p.client p.ticket p.serial e.standing) u) :=
    (exec_presentTicket_active hnext).trans (congrArg _ (presentActive_local (s := u) hchecks hi he))
  have hadmitted : ∀ d x, decideSeat p.client p.ticket p.serial e.standing = d → d.verdict = .admitted →
      applyDecision p.client p.seat d u = x → admitted x := by
    rintro d x hd hv rfl
    rw [hd] at hexec
    exact hexec.trans (congrArg _ (presentLocally_admitted hv hcu hlu h1 h2 hru hnu))
  have hrefused : ∀ d x n, decideSeat p.client p.ticket p.serial e.standing = d → d.verdict ≠ .admitted →
      applyDecision p.client p.seat d u = x → verdictCount p.seat d x = n → refused d.verdict.result n x := by
    rintro d x n hd hv rfl rfl
    rw [hd] at hexec
    exact hexec.trans (congrArg _ (presentLocally_refused hv hcu hlu h1 h2 hru hnu hsubs))
  have hplain : ∀ d, decideSeat p.client p.ticket p.serial e.standing = d → d = .unknownSeat ∨ d = .voided ∨ d = .notCurrent →
      refused d.verdict.result 0 u := by
    rintro d hd (rfl | rfl | rfl) <;> exact hrefused _ u 0 hd (by decide) rfl rfl
  refine ⟨fun hst => hplain .unknownSeat (by rw [hst]; rfl) (.inl rfl),
    fun t hst => hplain .voided (by rw [hst]; rfl) (.inr (.inl rfl)), fun t hst => ⟨fun ht => ?_, fun ht => ?_⟩,
    fun t holder time hst => ⟨fun ht => ?_, fun ht hh => ?_, fun ht hh => ?_⟩⟩
  · refine hplain .notCurrent ?_ (.inr (.inr rfl))
    rw [hst]
    exact if_neg (mt presented_iff.1 ht)
  · refine hadmitted (.checkIn t) _ ?_ rfl ?_
    · rw [hst]
      exact if_pos (presented_iff.2 ht)
    · rw [applyDecision_checkIn (s := u) hi he, ht.1]
      rfl
  · refine hplain .notCurrent ?_ (.inr (.inr rfl))
    rw [hst]
    exact if_pos (by rw [Bool.eq_false_iff.2 (mt presented_iff.1 ht)]; rfl)
  · refine hadmitted .again u ?_ rfl rfl
    rw [hst, decideSeat, presented_iff.2 ht]
    exact if_pos hh
  · refine hrefused (.duplicate t holder) _ _ ?_ (by simp [Decision.verdict]) ?_ ?_
    · rw [hst, decideSeat, presented_iff.2 ht]
      exact if_neg hh
    · rw [applyDecision_duplicate (s := u) hi he, ht.1]
      rfl
    · have hcount := verdictCount_duplicate (client := p.client) (holder := holder) (t := t) (s := u) hi he
      rw [applyDecision_duplicate (s := u) hi he, ht.1] at hcount
      exact hcount

end Sys2Proof.Machine
end

section
/-! The ends of remote claims (R41, R105 to R107). -/
namespace Sys2Proof.Machine

theorem fellBack_of_ne {r : Record} (s : State) (h : r.cls ≠ .claimant) : fellBack r s = s := if_pos h

/-- R106: a relayed result that is no ADMITTED. -/
theorem relayResult_refused {k : Claim} {code : CheckinCode} {r : Record} {s : State} (hc : code ≠ .admitted)
    (hr : findRecord k.client s = some r) (hn : (s.ast.records.map Record.client).Nodup) (hs : r.subs.Nodup) :
    relayResult k code s = fellBack r s := by
  rw [relayResult, if_neg hc]
  exact claimantFallback_eq hr hn hs

/-- R106, R26: a relayed ADMITTED sets the binding, from which the class is derived; the record then falls back. -/
theorem relayResult_admitted {k : Claim} {r : Record} {s : State} (hr : findRecord k.client s = some r)
    (hn : (s.ast.records.map Record.client).Nodup) (hs : r.subs.Nodup) :
    let r' := derivedRecord (checkedInBy k.client k.seat s) { r with binding := some { ticket := k.ticket, seat := k.seat } }
    let y := recordBecomes k.client r' s
    relayResult k .admitted s = fellBack r' (if r'.cls = r.cls then y else recompute y) := by
  intro r' y
  let bound : Record := { r with binding := some { ticket := k.ticket, seat := k.seat } }
  have hc : bound.client = k.client := (findRecord_mem hr).2
  have hrb : findRecord k.client (recordBecomes k.client bound s) = some bound := findRecord_recordBecomes hr hc
  have hnb : ((recordBecomes k.client bound s).ast.records.map Record.client).Nodup := (recordBecomes_clients s hc).symm ▸ hn
  have hground : groundOf k.client bound.binding (recordBecomes k.client bound s) = checkedInBy k.client k.seat s :=
    checkedInBy_congr (s := s) rfl rfl k.client k.seat
  have hderived : deriveClass k.client (recordBecomes k.client bound s) = if r'.cls = r.cls then y else recompute y := by
    have htwice : recordBecomes k.client r' (recordBecomes k.client bound s) = y := recordBecomes_twice s hc
    rw [deriveClass_becomes hrb hnb, hground, ← htwice]
  have hfind : findRecord k.client (if r'.cls = r.cls then y else recompute y) = some r' := by
    have hy : findRecord k.client y = some r' := findRecord_recordBecomes hr ((derivedRecord_client _ bound).trans hc)
    split <;> simp only [recompute_findRecord, hy]
  have hclients : ((if r'.cls = r.cls then y else recompute y).ast.records.map Record.client).Nodup := by
    have hy : (y.ast.records.map Record.client).Nodup :=
      (recordBecomes_clients s ((derivedRecord_client _ bound).trans hc)).symm ▸ hn
    split <;> simpa only [recompute_ast] using hy
  have hsubs : r'.subs.Nodup := by
    have hkept : r'.subs = r.subs := by
      simp only [r', derivedRecord]
      split_ifs <;> rfl
    exact hkept ▸ hs
  rw [relayResult, if_pos rfl, updateRecord_found hr hn, hderived]
  exact claimantFallback_eq hfind hclients hsubs

/-- R106: a claim that ends with no record of its client. -/
theorem endClaim_absent {k : Claim} {code : CheckinCode} {n : Nat} {s : State} (h : findRecord k.client s = none) :
    endClaim k code n s = claimGone k.client s := by
  have hd : findRecord k.client (claimGone k.client s) = none := h
  rw [endClaim, dropClaim_eq]
  simp only [hd]

/-- R106: the claim of a record that is not served ends unanswered. -/
theorem endClaim_unserved {k : Claim} {code : CheckinCode} {n : Nat} {r : Record} {s : State}
    (h : findRecord k.client s = some r) (hst : ¬ r.state.served = true) : endClaim k code n s = claimGone k.client s := by
  have hd : findRecord k.client (claimGone k.client s) = some r := h
  rw [endClaim, dropClaim_eq]
  simp only [hd, if_neg hst]

/-- R106: the result of a claim goes to a served record. -/
theorem endClaim_served {k : Claim} {code : CheckinCode} {n : Nat} {r : Record} {s : State}
    (h : findRecord k.client s = some r) (hst : r.state.served = true) :
    endClaim k code n s =
      relayResult k code (ckuPlace (.checkinResult k.client k.ticket k.seat code k.owner n) (claimGone k.client s)) := by
  have hd : findRecord k.client (claimGone k.client s) = some r := h
  rw [endClaim, dropClaim_eq]
  simp only [hd, if_pos hst]
  rfl

theorem exec_checkinVerdict {source : Nat} {v : VerdictPayload} {f : BusFrame} {s : State} (h : FrameTaken 10 source f s)
    (hr : readVerdict f.payload = some v) : exec (.checkinVerdict f) s = .next (takeVerdict source v (carrierEnded s)) := by
  have hroute : route 10#8 source f.dest.toNat f.payload (carrierEnded s) = takeVerdict source v (carrierEnded s) := by
    simp [route, hr]
  exact congrArg Host.Outcome.next ((receive_taken h).trans hroute)

/-- R107: a verdict that matches no pending claim is ignored. -/
theorem takeVerdict_ignored {source : Nat} {v : VerdictPayload} {s : State}
    (h : ∀ k, findClaim v.client s = some k → ¬ (k.owner = source ∧ k.seat = v.seat ∧ k.ticket = v.ticket)) :
    takeVerdict source v s = s := by
  have hno : matchingClaim source v s = none := by
    cases hk : findClaim v.client s with
    | none => simp [matchingClaim, hk]
    | some k => simpa [matchingClaim, hk, and_assoc] using h k hk
  simp [takeVerdict, hno]

theorem takeVerdict_matches {source : Nat} {v : VerdictPayload} {k : Claim} {s : State} (ht : takesReplies s = true)
    (hk : findClaim v.client s = some k) (hm : k.owner = source ∧ k.seat = v.seat ∧ k.ticket = v.ticket) :
    takeVerdict source v s = endClaim k v.result.result (if v.result = .duplicate then v.duplicates else 0) s := by
  obtain ⟨ho, hq, hti⟩ := hm
  have hmatch : matchingClaim source v s = some k := by simp [matchingClaim, hk, ho, hq, hti]
  simp only [takeVerdict, ht, if_true, hmatch]

theorem findClaim_client {client : Nat} {k : Claim} {s : State} (h : findClaim client s = some k) : k.client = client := by
  simpa using List.find?_some h

theorem exec_claimTimerExpiry {client : Nat} {k : Claim} {s : State} (h : findClaim client s = some k)
    (ht : k.timer.isSome) : exec (.claimTimerExpiry client) s = .next (endClaim k .ownerSilent 0 s) := by
  simp only [exec, execClaimTimerExpiry, h, if_pos ht]

/-- Settles O41, by the record of the claim's client. -/
theorem claimEnds : Obligations.ClaimEnds := by
  intro source v f s htable hears
  obtain ⟨-, hn, -, -, hrecords⟩ := htable
  refine ⟨fun hnone => ⟨fun ⟨hf, hv⟩ => ?_, ?_⟩, fun k hk => ?_⟩
  · have hnone' : findClaim v.client (carrierEnded s) = none := hnone
    exact (exec_checkinVerdict hf hv).trans (congrArg _ (takeVerdict_ignored fun k hk => by simp [hnone'] at hk))
  · simp only [exec, execClaimTimerExpiry, hnone]
  intro matching gone place n code
  have hkc := findClaim_client hk
  have hku : findClaim v.client (carrierEnded s) = some k := hk
  have hserved : ∀ {st : RecordState}, st = .active ∨ st = .offering ∨ st = .steered → st.served = true := (served_iff _).2
  have hunserved : ∀ {st : RecordState}, st = .expected ∨ st = .pulling ∨ st = .releasing → ¬ st.served = true := by
    rintro st (rfl | rfl | rfl) <;> decide
  have hplaced : ∀ (u : State) (c : CheckinCode) (m : Nat), u.ast = s.ast →
      (∀ r, findRecord v.client s = some r → findRecord k.client (place c m (gone u)) = some r) ∧
        ((place c m (gone u)).ast.records.map Record.client).Nodup := by
    intro u c m hu
    have hast : (place c m (gone u)).ast = s.ast := (ckuPlace_ast _ _).trans hu
    exact ⟨fun r hr => by simpa only [findRecord, hast, hkc] using hr, by simpa only [hast] using hn⟩
  refine ⟨fun ⟨hf, hv⟩ _ hno => ?_, fun ⟨hf, hv⟩ hj hm => ?_, fun ⟨hf, hv⟩ hnode hmatch => ?_, fun ht => ?_⟩
  · refine (exec_checkinVerdict hf hv).trans (congrArg _ (takeVerdict_ignored fun x hx => ?_))
    cases hku.symm.trans hx
    exact hno
  · have hnt : ¬ takesReplies (carrierEnded s) = true := fun h => ((takesReplies_iff _).1 h).elim hj hm
    exact (exec_checkinVerdict hf hv).trans (congrArg _ (if_neg hnt))
  · have hcode : code = v.result.result := by cases hv : v.result <;> simp [code, hv, Verdict.result]
    have hexec : exec (.checkinVerdict f) s = .next (endClaim k code n (carrierEnded s)) :=
      (exec_checkinVerdict hf hv).trans
        (congrArg _ (hcode ▸ takeVerdict_matches ((takesReplies_iff _).2 hnode) hku hmatch))
    refine ⟨fun hr => ?_, fun r hr => ⟨fun hst => ?_, fun hst => ?_⟩⟩
    · have hru : findRecord k.client (carrierEnded s) = none := hkc.symm ▸ hr
      rw [hexec, endClaim_absent hru, hkc]
    · have hru : findRecord k.client (carrierEnded s) = some r := hkc.symm ▸ hr
      rw [hexec, endClaim_unserved hru (hunserved hst), hkc]
    · have hru : findRecord k.client (carrierEnded s) = some r := hkc.symm ▸ hr
      have hsubs : r.subs.Nodup := (hrecords r (findRecord_mem hr).1).2.1
      have hends : exec (.checkinVerdict f) s = .next (relayResult k code (place code n (gone (carrierEnded s)))) := by
        rw [hexec, endClaim_served hru (hserved hst), hkc]
      obtain ⟨hrp, hnp⟩ := hplaced (carrierEnded s) code n rfl
      have hground : checkedInBy k.client k.seat (place code n (gone (carrierEnded s))) = checkedInBy v.client k.seat s := by
        rw [hkc]
        exact checkedInBy_congr (congrArg Cfl.config (ckuPlace_cfl _ _)) (congrArg Ens.seats (ckuPlace_ens _ _)) _ _
      refine ⟨fun hres => ?_, fun hres hgr => ?_, fun hres hgr => ?_⟩
      · have hne : code ≠ .admitted := by
          rw [hcode]
          cases hv : v.result <;> simp_all [Verdict.result]
        exact hends.trans (congrArg _ (relayResult_refused hne (hrp r hr) hnp hsubs))
      all_goals
        have hadm : code = .admitted := by rw [hcode, hres]; rfl
        have hzero : n = 0 := by simp [n, hres]
        rw [hadm, hzero] at hends hground hrp hnp
        have hrelay := hends.trans (congrArg _ (relayResult_admitted (hrp r hr) hnp hsubs))
        rw [hground, hgr, hkc] at hrelay
        intro r'
      · intro x r''
        refine hrelay.trans (congrArg _ ?_)
        by_cases hh : r.cls = .home
        · have hpull : r.state ≠ .pulling := by rcases hst with h | h | h <;> simp [h]
          simp [derivedRecord, claimantStart, hh, hpull, r'', r', x]
        · simp [derivedRecord, hh, r', x]
      · intro x
        refine hrelay.trans (congrArg _ ?_)
        by_cases hh : r.cls = .home
        · simp [derivedRecord, hh, r', x, fellBack_of_ne]
        · have hne : ¬ ClientClass.home = r.cls := fun h => hh h.symm
          simp [derivedRecord, Record.stopClaimant, hh, hne, r', x, fellBack_of_ne]
  · have hexec := exec_claimTimerExpiry hk ht
    refine ⟨fun hr => ?_, fun r hr => ⟨fun hst => ?_, fun hst => ?_⟩⟩
    · have hrk : findRecord k.client s = none := hkc.symm ▸ hr
      rw [hexec, endClaim_absent hrk, hkc]
    · have hrk : findRecord k.client s = some r := hkc.symm ▸ hr
      rw [hexec, endClaim_unserved hrk (hunserved hst), hkc]
    · have hrk : findRecord k.client s = some r := hkc.symm ▸ hr
      obtain ⟨hrp, hnp⟩ := hplaced s .ownerSilent 0 rfl
      rw [hexec, endClaim_served hrk (hserved hst), hkc]
      exact congrArg _ (relayResult_refused (by decide) (hrp r hr) hnp (hrecords r (findRecord_mem hr).1).2.1)

end Sys2Proof.Machine
end

section
/-! Pulls that begin, wait or fail, and the admission of a client that has a record (R28, R29, R48, R51, R56, R57). -/
namespace Sys2Proof.Machine

/-! ## The one record of a client (R22) -/

/-- R22: a client's record is the only one of the list with that client. -/
def OnlyRecord (c : Nat) (r : Record) (s : State) : Prop :=
  findRecord c s = some r ∧ ∀ x ∈ s.ast.records, x.client = c → x = r

theorem onlyRecord_found {c : Nat} {r : Record} {s : State} (h : findRecord c s = some r)
    (hn : (s.ast.records.map Record.client).Nodup) : OnlyRecord c r s := by
  obtain ⟨hr, hc⟩ := findRecord_mem h
  exact ⟨h, fun x hx hxc => List.inj_on_of_nodup_map hn hx hr (hxc.trans hc.symm)⟩

theorem onlyRecord_congr {c : Nat} {r : Record} {s t : State} (h : t.ast.records = s.ast.records) (hs : OnlyRecord c r s) :
    OnlyRecord c r t := by
  simpa only [OnlyRecord, findRecord, h] using hs

/-- R22: a record that is placed behind records of other clients. -/
theorem onlyRecord_added {r : Record} {s : State} (h : findRecord r.client s = none) :
    OnlyRecord r.client r (addRecord r s) := by
  have hno : ∀ x ∈ s.ast.records, x.client ≠ r.client := by simpa [findRecord] using h
  have hrecords : (addRecord r s).ast.records = s.ast.records ++ [r] := by simp [addRecord]
  refine ⟨?_, fun x hx hc => ?_⟩
  · rw [findRecord] at h
    simp [findRecord, hrecords, List.find?_append, h]
  · rw [hrecords] at hx
    rcases List.mem_append.1 hx with hx | hx
    · exact absurd hc (hno x hx)
    · exact List.mem_singleton.1 hx

theorem OnlyRecord.client {c : Nat} {r : Record} {s : State} (h : OnlyRecord c r s) : r.client = c := (findRecord_mem h.1).2

theorem OnlyRecord.updateRecord {c : Nat} {r : Record} {s : State} (h : OnlyRecord c r s) (f : Record → Record) :
    updateRecord c f s = recordBecomes c (f r) s := by
  unfold Machine.updateRecord recordBecomes
  congr 2
  dsimp only
  congr 1
  refine List.map_congr_left fun x hx => ?_
  by_cases hc : x.client = c
  · rw [h.2 x hx hc]
  · simp [hc]

theorem OnlyRecord.becomes {c : Nat} {r r' : Record} {s : State} (h : OnlyRecord c r s) (hc : r'.client = c) :
    OnlyRecord c r' (recordBecomes c r' s) := by
  refine ⟨findRecord_recordBecomes h.1 hc, fun x hx hxc => ?_⟩
  obtain ⟨y, hy, rfl⟩ := List.mem_map.1 hx
  by_cases hyc : y.client = c
  · simp [hyc]
  · simp [hyc] at hxc

theorem OnlyRecord.classOf {c : Nat} {r : Record} {s : State} (h : OnlyRecord c r s) : classOf c s = some r.cls := by
  simp [Machine.classOf, h.1]

theorem OnlyRecord.sinceOf {c : Nat} {r : Record} {s : State} (h : OnlyRecord c r s) : sinceOf c s = r.since := by
  simp [Machine.sinceOf, h.1]

/-! ## The end of an attempt (R57) -/

/-- R57: a pull that fails. -/
theorem pullEndsFresh_eq {c : Nat} {r : Record} {s : State} (h : OnlyRecord c r s) :
    pullEndsFresh true c s = pullFailed c r s := by
  have hgone : OnlyRecord c r (inflightGone c s) := onlyRecord_congr rfl h
  have hbecomes : activateRecord c (dropInflight c s) = recordBecomes c (activeRecord r) (inflightGone c s) := by
    rw [dropInflight_eq]
    exact hgone.updateRecord _
  have hcls : classOf c (raise .contextLost (recordBecomes c (activeRecord r) (inflightGone c s))) = some r.cls :=
    (onlyRecord_congr rfl (hgone.becomes (r' := activeRecord r) h.client)).classOf
  rw [pullEndsFresh, hbecomes]
  exact congrArg (fun x => hoePlace (.assocResult c .acceptedFresh x none []) _) hcls

/-- R57: the second CTX_PULL of a pull whose first frame does not wait, accepted by the RBC. -/
theorem secondAttempt_sent {e : Inflight} {s : State} (hf : e.frame ≠ .queued) (hj : s.cfl.node = .joined)
    (hroom : s.rbc.urgent.length < 8) :
    secondAttempt e s = updateInflight e.client
      (fun x => { x with attempt := 2, frame := .queued, tag := s.rbc.nextTag, timer := some 400 })
      (urgentSent e.peer (.ctxPull e.client (sinceOf e.client s) 2) s) := by
  obtain ⟨ha, hq⟩ := queueFrame_urgent e.peer (.ctxPull e.client (sinceOf e.client s) 2) s hj rfl rfl hroom
  simp [secondAttempt, hf, ha, hq, urgentSent, responseMs]

/-- R48, R57: the second CTX_PULL of such a pull, refused. -/
theorem secondAttempt_refused {e : Inflight} {s : State} (hf : e.frame ≠ .queued)
    (ha : ∀ b, queueAnswer e.peer (.ctxPull e.client b 2) s = none) :
    secondAttempt e s = pullEndsFresh true e.client (updateInflight e.client (fun x => { x with frame := .ended })
      (queueFrame e.peer (.ctxPull e.client (sinceOf e.client s) 2) s)) := by
  simp [secondAttempt, hf, ha]

/-- R49: the end of an entry whose frame does not wait. -/
theorem inflightGone_unqueued {c : Nat} {e : Inflight} {s : State} (h : findInflight c s = some e) (hf : e.frame ≠ .queued) :
    inflightGone c s = s.withHoe { s.hoe with inflight := s.hoe.inflight.filter fun e => e.client ≠ c } := by
  rw [← dropInflight_eq, dropInflight]
  simp only [h, if_neg hf]

/-- R57: what a failed pull leaves of the in-flight list. -/
theorem pullFailed_congr {c : Nat} {r : Record} {s t : State} (h : inflightGone c t = inflightGone c s) :
    pullFailed c r t = pullFailed c r s := by
  rw [pullFailed, pullFailed, h]

/-- R48: two frames refused one after the other. -/
theorem count16_twice (n : Nat) : count16 (count16 n) = min 65535 (n + 2) := by
  simp only [count16, satAdd]
  omega

/-- R48, R57: a pull whose frames the RBC refuses fails at once. -/
theorem startPull_refused {c peer : Nat} {r : Record} {s : State} (hj : s.cfl.node = .joined) (hfull : 8 ≤ s.rbc.urgent.length)
    (hfree : ∀ e ∈ s.hoe.inflight, e.client ≠ c) (h : OnlyRecord c r s) : startPull c peer s = pullRefused c r s := by
  let e := refusedEntry c .pull peer
  let once := s.withRbc { s.rbc with txDrops := count16 s.rbc.txDrops }
  let twice := s.withRbc { s.rbc with txDrops := min 65535 (s.rbc.txDrops + 2) }
  have hfirst := queueFrame_urgent_full peer (.ctxPull c (sinceOf c s) 1) s hj rfl rfl hfull
  have hsecond : ∀ b, queueAnswer e.peer (.ctxPull e.client b 2) (addInflight e once) = none ∧
      queueFrame e.peer (.ctxPull e.client b 2) (addInflight e once) = addInflight e twice := fun b => by
    obtain ⟨ha, hq⟩ := queueFrame_urgent_full e.peer (.ctxPull e.client b 2) (addInflight e once) hj rfl rfl hfull
    refine ⟨ha, hq.trans ?_⟩
    rw [show count16 (addInflight e once).rbc.txDrops = min 65535 (s.rbc.txDrops + 2) from count16_twice _]
    rfl
  have hstart : startPull c peer s = secondAttempt e (addInflight e once) := by
    simp only [startPull, hfirst.1, hfirst.2, e, once]
  have hsame : updateInflight c (fun x => { x with frame := .ended }) (addInflight e twice) = addInflight e twice := by
    have hmap : s.hoe.inflight.map (fun x => if x.client = c then { x with frame := .ended } else x) = s.hoe.inflight :=
      (List.map_congr_left fun x hx => if_neg (hfree x hx)).trans (List.map_id _)
    have hlist : (addInflight e twice).hoe.inflight.map (fun x => if x.client = c then { x with frame := .ended } else x) =
        s.hoe.inflight ++ [e] := by
      simp only [addInflight, State.withHoe_hoe, List.map_append]
      exact congrArg₂ _ hmap (by simp [e, refusedEntry])
    rw [updateInflight, hlist]
    rfl
  have hfind : findInflight c (addInflight e twice) = some e := by
    have hnone : s.hoe.inflight.find? (fun x => x.client == c) = none := by simpa using hfree
    have happend : (addInflight e twice).hoe.inflight = s.hoe.inflight ++ [e] := rfl
    rw [findInflight, happend, List.find?_append, hnone]
    simp [e, refusedEntry]
  have hgone : inflightGone c (addInflight e twice) = inflightGone c twice := by
    have hlist : (addInflight e twice).hoe.inflight.filter (fun x => x.client ≠ c) = s.hoe.inflight := by
      have happend : (addInflight e twice).hoe.inflight = s.hoe.inflight ++ [e] := rfl
      rw [happend, List.filter_append, List.filter_eq_self.2 fun x hx => by simpa using hfree x hx]
      simp [e, refusedEntry]
    rw [inflightGone_absent (s := twice) hfree, inflightGone_unqueued hfind (by simp [e, refusedEntry]), hlist]
    rfl
  rw [hstart, secondAttempt_refused (by simp [e, refusedEntry]) fun b => (hsecond b).1, (hsecond _).2,
    show e.client = c from rfl, hsame, pullEndsFresh_eq (s := addInflight e twice) (onlyRecord_congr rfl h)]
  exact pullFailed_congr hgone

/-! ## A pull that is not taken (R51) -/

theorem pullTaken_iff (fromQueue : Bool) (s : State) : pullTaken fromQueue s = true ↔ PullTaken fromQueue s := by
  simp only [pullTaken, Bool.and_eq_true, Bool.or_eq_true, decide_eq_true_eq, List.isEmpty_iff, and_assoc]
  exact Iff.rfl

/-- R51: what a pull that is not taken comes to, where the state it comes to has a property. -/
theorem pullWaits_of {q : AssocRequest} {u : State} {ends : State → Prop} (h : ends (waitOrRefuse q u)) : PullWaits q u ends := by
  obtain ⟨hreplaced, hlast⟩ := waitOrRefuse_waits q u
  exact ⟨fun pre w post hl hw hx => hreplaced pre w post hl hw hx ▸ h,
    fun hno => ⟨fun hl => (hlast hno).1 hl ▸ h, fun hl => (hlast hno).2 hl ▸ h⟩⟩

/-! ## An ASSOCIATE meets the client's record (R28, R29) -/

theorem answerAccepted_only {c : Nat} {code : AssocCode} {r : Record} {s : State} (h : OnlyRecord c r s) :
    answerAccepted c code s = astPlace (.assocResult c code (some r.cls) none []) s := by
  rw [answerAccepted, h.classOf, answerAssociate]

/-- R28: an ASSOCIATE that meets an EXPECTED record, by the clock and the in-flight list. -/
theorem associateExpected_eq {fromQueue : Bool} {r : Record} {q : AssocRequest} {heard : List Nat} {s : State}
    (h : OnlyRecord q.client r s) (hh : normaliseHeard s.station q.heard = heard) :
    associateExpected fromQueue r q s =
      if s.sck.phase = .unknown then
        astPlace (.assocResult q.client .freshNoClock (some r.cls) none []) (recordBecomes q.client
          { r with state := .active, peer := none, timer := claimantTimerFor r.cls, heard := heard, idle := some 120000 } s)
      else if pullTaken fromQueue s then
        startPull q.client (r.peer.getD 0)
          (recordBecomes q.client { r with state := .pulling, timer := claimantTimerFor r.cls, heard := heard } s)
      else waitOrRefuse q (recordBecomes q.client { r with heard := heard } s) := by
  have hc := h.client
  have hheard : OnlyRecord q.client { r with heard := heard } (recordBecomes q.client { r with heard := heard } s) :=
    h.becomes hc
  have htwice : ∀ x : Record, recordBecomes q.client x (recordBecomes q.client { r with heard := heard } s) =
      recordBecomes q.client x s := fun x => recordBecomes_twice (r := { r with heard := heard }) s hc
  have hplaced := answerAccepted_only (code := .freshNoClock) (h.becomes (r' :=
    { r with state := .active, peer := none, timer := claimantTimerFor r.cls, heard := heard, idle := some 120000 }) hc)
  simp only [associateExpected, hh, h.updateRecord, hheard.updateRecord, htwice]
  exact congrArg (ite _ · _) hplaced

/-- A frame that is a CTX_GRANT of the client. -/
def grantTo (client : Nat) (f : TxFrame) : Bool :=
  match f.body with
  | .ctxGrant c .. => c == client
  | _ => false

theorem grantTo_iff {client : Nat} {f : TxFrame} :
    grantTo client f = true ↔ ∃ since b l, f.body = .ctxGrant client since b l := by
  unfold grantTo
  cases f.body <;> simp

theorem queuedGrant_eq (client : Nat) (s : State) :
    queuedGrant client s = (s.rbc.urgent.find? (grantTo client)).map TxFrame.tag := rfl

theorem find_grantTo_none {client : Nat} {l : List TxFrame}
    (h : ∀ f ∈ l, ∀ since b k, f.body ≠ .ctxGrant client since b k) : l.find? (grantTo client) = none := by
  refine List.find?_eq_none.2 fun f hf hg => ?_
  obtain ⟨since, b, k, hb⟩ := grantTo_iff.1 hg
  exact h f hf since b k hb

/-- R29: the client's CTX_GRANT that is still on the URGENT queue. -/
theorem queuedGrant_first {client since : Nat} {b : Option Binding} {l : List Nat} {pre post : List TxFrame} {g : TxFrame}
    {s : State} (hu : s.rbc.urgent = pre ++ g :: post) (hg : g.body = .ctxGrant client since b l)
    (hpre : ∀ f ∈ pre, ∀ since b l, f.body ≠ .ctxGrant client since b l) : queuedGrant client s = some g.tag := by
  have hfirst : grantTo client g = true := grantTo_iff.2 ⟨since, b, l, hg⟩
  rw [queuedGrant_eq, hu, List.find?_append, find_grantTo_none hpre]
  simp [hfirst]

theorem queuedGrant_none {client : Nat} {s : State}
    (h : ∀ f ∈ s.rbc.urgent, ∀ since b l, f.body ≠ .ctxGrant client since b l) : queuedGrant client s = none := by
  rw [queuedGrant_eq, find_grantTo_none h]
  rfl

/-- R29: a grant that waits is withdrawn alone. -/
theorem withdrawFrame_urgent {pre post : List TxFrame} {g : TxFrame} {s : State} (hu : s.rbc.urgent = pre ++ g :: post)
    (htag : ∀ f ∈ pre ++ post ++ s.rbc.routine, f.tag ≠ g.tag) :
    withdrawFrame g.tag s = s.withRbc { s.rbc with urgent := pre ++ post } := by
  have hkept : ∀ l : List TxFrame, (∀ f ∈ l, f.tag ≠ g.tag) → l.filter (fun f => f.tag ≠ g.tag) = l := fun l hl =>
    List.filter_eq_self.2 fun f hf => by simpa using hl f hf
  have hurgent : s.rbc.urgent.filter (fun f => f.tag ≠ g.tag) = pre ++ post := by
    rw [hu, List.filter_append, List.filter_cons_of_neg (by simp), hkept pre fun f hf => htag f (by simp [hf]),
      hkept post fun f hf => htag f (by simp [hf])]
  rw [withdrawFrame, Rbc.withdraw, hurgent, hkept s.rbc.routine fun f hf => htag f (by simp [hf])]

/-- R28, R29, R51: what an ASSOCIATE of a client with a record comes to. -/
theorem associateKnown_admitted {fromQueue : Bool} {q : AssocRequest} {r : Record} {u : State} {ends : State → Prop}
    (h : OnlyRecord q.client r u) (hj : r.state = .expected → u.cfl.node = .joined)
    (hends : ends (associateKnown fromQueue r q u)) : KnownAdmitted fromQueue q r u ends := by
  unfold KnownAdmitted
  intro heard answer fresh active
  have hc := h.client
  have hanswer : ∀ (code : AssocCode) (x : Record), x.client = q.client → x.cls = r.cls →
      answerAccepted q.client code (recordBecomes q.client x u) = answer code (recordBecomes q.client x u) :=
    fun code x hx hcls => (answerAccepted_only (h.becomes hx)).trans (by rw [hcls])
  refine ⟨fun hst => ?_, fun hst => ?_, fun hst => ?_, fun hst hp => ?_, fun a hst hp ha => ?_, fun hst => ⟨?_, fun hno => ?_⟩⟩
  · have hknown : associateKnown fromQueue r q u =
        answerAccepted q.client .accepted (updateRecord q.client (Record.refresh u.station q) u) := by
      rcases hst with hst | hst <;> simp only [associateKnown, hst]
    rw [hknown, h.updateRecord, hanswer _ (Record.refresh u.station q r) hc rfl] at hends
    exact hends
  · simp only [associateKnown, hst] at hends
    rw [h.updateRecord] at hends
    have hcounted : OnlyRecord q.client { active with timer := none }
        (countSteerFailure (recordBecomes q.client { active with timer := none } u)) := onlyRecord_congr rfl (h.becomes hc)
    have hanswered : ends (answerAccepted q.client .accepted
        (countSteerFailure (recordBecomes q.client { active with timer := none } u))) := hends
    rw [answerAccepted_only hcounted] at hanswered
    exact hanswered
  · simpa only [associateKnown, hst] using hends
  · simp only [associateKnown, hst] at hends
    rw [associateExpected_eq h rfl, if_pos hp] at hends
    exact hends
  · simp only [associateKnown, hst] at hends
    have hpeer : r.peer.getD 0 = a := by simp [ha]
    rw [associateExpected_eq h rfl, if_neg hp, hpeer] at hends
    intro pulling x
    have hx : OnlyRecord q.client pulling x := h.becomes hc
    refine ⟨fun ht hroom => ?_, fun ht hfull hfree => ?_, fun ht => ?_⟩
    · rw [if_pos ((pullTaken_iff _ _).2 ht)] at hends
      have hbegun := startPull_begun (client := q.client) (peer := a) (s := x) (hj hst) hroom
      rw [hx.sinceOf] at hbegun
      exact hbegun ▸ hends
    · rw [if_pos ((pullTaken_iff _ _).2 ht)] at hends
      exact startPull_refused (s := x) (peer := a) (hj hst) hfull hfree hx ▸ hends
    · rw [if_neg (mt (pullTaken_iff _ _).1 ht)] at hends
      exact pullWaits_of hends
  · intro pre post g since b l hu hg hpre htag
    simp only [associateKnown, hst, associateReleasing, queuedGrant_first hu hg hpre] at hends
    rw [withdrawFrame_urgent hu htag] at hends
    have hw : OnlyRecord q.client r (u.withRbc { u.rbc with urgent := pre ++ post }) := onlyRecord_congr rfl h
    rw [hw.updateRecord, answerAccepted_only (hw.becomes (by exact hc))] at hends
    exact hends
  · simp only [associateKnown, hst, associateReleasing, queuedGrant_none hno] at hends
    rw [h.updateRecord] at hends
    exact hends

end Sys2Proof.Machine
end

section
/-! The admission of a client, from the inbound queue and from the wait queue (R27 to R31, R51, R52). -/
namespace Sys2Proof.Machine

/-! ## A new client (R30, R31) -/

/-- R30: the declared seat holds a ticket. -/
theorem ticketed_iff (q : AssocRequest) (s : State) :
    (q.declaredSeat.map fun seat => seatTicketed seat s).getD false = true ↔
      ∃ seat, q.declaredSeat = some seat ∧ seatTicketed seat s = true := by
  cases q.declaredSeat <;> simp

/-- R30: no room, or a class. -/
theorem newClass_full {q : AssocRequest} {s : State}
    (h : 160 ≤ s.ast.records.length ∨
      (¬ ∃ seat, q.declaredSeat = some seat ∧ seatTicketed seat s = true) ∧ s.capacity ≤ s.guests) : newClass q s = none := by
  unfold newClass
  rcases h with h | ⟨ht, hg⟩
  · exact if_pos h
  · rw [if_neg (mt (ticketed_iff q s).1 ht), if_neg (Nat.not_lt.2 hg)]
    split <;> rfl

theorem newClass_some {q : AssocRequest} {cls : ClientClass} {s : State}
    (hfull : ¬ (160 ≤ s.ast.records.length ∨
      (¬ ∃ seat, q.declaredSeat = some seat ∧ seatTicketed seat s = true) ∧ s.capacity ≤ s.guests))
    (ht : (∃ seat, q.declaredSeat = some seat ∧ seatTicketed seat s = true) → cls = .claimant)
    (hnt : ¬ (∃ seat, q.declaredSeat = some seat ∧ seatTicketed seat s = true) → cls = .guest) :
    newClass q s = some cls := by
  obtain ⟨hroom, hguest⟩ := not_or.1 hfull
  have hlimit : ¬ tableLimit ≤ s.clients := hroom
  unfold newClass
  rw [if_neg hlimit]
  by_cases htick : ∃ seat, q.declaredSeat = some seat ∧ seatTicketed seat s = true
  · rw [if_pos ((ticketed_iff q s).2 htick), ht htick]
  · have hplace : s.guests < s.capacity := by
      by_contra hno
      exact hguest ⟨htick, Nat.not_lt.1 hno⟩
    rw [if_neg (mt (ticketed_iff q s).1 htick), if_pos hplace, hnt htick]

/-- R31: the record of a new client, ACTIVE, with its answer. -/
theorem associateNew_active {fromQueue : Bool} {q : AssocRequest} {cls : ClientClass} {code : AssocCode} {s : State}
    (hr : findRecord q.client s = none) (hcls : newClass q s = some cls) (hb : beginning q s = .active code) :
    associateNew fromQueue q s =
      astPlace (.assocResult q.client code (some cls) none []) (addRecord (newRecord q cls none s) s) := by
  have honly : OnlyRecord q.client (newRecord q cls none s) (addRecord (newRecord q cls none s) s) :=
    onlyRecord_added (r := newRecord q cls none s) hr
  simp only [associateNew, hcls, hb]
  exact answerAccepted_only honly

/-- R31, R51: the pull of a new client. -/
theorem associateNew_pull {fromQueue : Bool} {q : AssocRequest} {cls : ClientClass} {a : Nat} {s : State}
    (hcls : newClass q s = some cls) (hb : beginning q s = .pull a) :
    associateNew fromQueue q s =
      if pullTaken fromQueue s then startPull q.client a (addRecord (newRecord q cls (some a) s) s) else waitOrRefuse q s := by
  simp only [associateNew, hcls, hb]

/-- R31: the first row of the table that fits, for a client of another section. -/
theorem beginning_foreign {q : AssocRequest} {s : State} (h : ¬ (q.prevSection = none ∨ q.prevSection = s.ownSection)) :
    beginning q s = .active .freshForeign := by
  obtain ⟨hnone, hown⟩ := not_or.1 h
  exact if_pos ⟨Option.isSome_iff_ne_none.2 hnone, hown⟩

/-- R31: the rows for a client of the own section. -/
theorem beginning_own {q : AssocRequest} {s : State} (h : q.prevSection = none ∨ q.prevSection = s.ownSection) :
    (q.prevStation = none ∨ q.prevStation = some s.station → beginning q s = .active .accepted) ∧
      ∀ a, q.prevStation = some a → a ≠ s.station →
        beginning q s = if s.sck.phase = .unknown then .active .freshNoClock else .pull a := by
  have hrow : ¬ (q.prevSection.isSome ∧ q.prevSection ≠ s.ownSection) := by
    rintro ⟨hsome, hne⟩
    exact h.elim (Option.isSome_iff_ne_none.1 hsome) hne
  refine ⟨fun hst => ?_, fun a hst hne => ?_⟩
  · rcases hst with hst | hst <;> simp [beginning, hrow, hst]
  · simp [beginning, hrow, hst, hne]

theorem addRecord_urgent (r : Record) (s : State) : (addRecord r s).rbc.urgent = s.rbc.urgent := by
  rw [addRecord, recompute_rbc_frame]
  rfl

/-- R30, R31, R51, R56: what an ASSOCIATE of a client without a record comes to, in a JOINED node. -/
theorem associateNew_admitted {fromQueue : Bool} {q : AssocRequest} {u : State} {ends : State → Prop}
    (hr : findRecord q.client u = none) (hj : u.cfl.node = .joined) (hends : ends (associateNew fromQueue q u)) :
    NewAdmitted fromQueue q u ends := by
  unfold NewAdmitted
  intro heard ticketed full own
  refine ⟨fun hfull => ?_, fun cls hfull ht hnt => ?_⟩
  · simp only [associateNew, newClass_full hfull] at hends
    exact hends
  intro active added accepted
  have hcls := newClass_some hfull ht hnt
  have hactive : ∀ code, beginning q u = .active code → ends (accepted code) := fun code hb => by
    rw [associateNew_active hr hcls hb] at hends
    exact hends
  refine ⟨fun hown => hactive _ (beginning_foreign hown), fun hown hst => hactive _ ((beginning_own hown).1 hst),
    fun a hown hst hne => ?_⟩
  have hrow := (beginning_own hown).2 a hst hne
  refine ⟨fun hp => hactive _ (hrow.trans (if_pos hp)), fun hp => ?_⟩
  rw [if_neg hp] at hrow
  rw [associateNew_pull hcls hrow] at hends
  intro pulling
  have hx : OnlyRecord q.client pulling (added pulling) := onlyRecord_added (r := pulling) hr
  have hjx : (added pulling).cfl.node = .joined := (congrArg Cfl.node (recompute_cfl _)).trans hj
  have hurgent : (added pulling).rbc.urgent = u.rbc.urgent := addRecord_urgent pulling u
  have hinflight : (added pulling).hoe.inflight = u.hoe.inflight := congrArg Hoe.inflight (recompute_hoe _)
  refine ⟨fun ht hroom => ?_, fun ht hfull hfree => ?_, fun ht => ?_⟩
  · rw [if_pos ((pullTaken_iff _ _).2 ht)] at hends
    have hbegun := startPull_begun (client := q.client) (peer := a) hjx (by rwa [hurgent])
    rw [hx.sinceOf] at hbegun
    exact hbegun ▸ hends
  · rw [if_pos ((pullTaken_iff _ _).2 ht)] at hends
    exact startPull_refused (peer := a) hjx (by rwa [hurgent]) (by rwa [hinflight]) hx ▸ hends
  · rw [if_neg (mt (pullTaken_iff _ _).1 ht)] at hends
    exact pullWaits_of hends

/-! ## Admission (R27, R52) -/

theorem associate_new_joined {fromQueue : Bool} {q : AssocRequest} {u : State} {ends : State → Prop}
    (hr : findRecord q.client u = none) (hj : u.cfl.node = .joined) (hends : ends (associate fromQueue q u)) :
    NewAdmitted fromQueue q u ends := by
  refine associateNew_admitted hr hj ?_
  simpa only [associate, hj, hr] using hends

/-- R27: a JOINED node admits a client that has a record, a MUTED one only a record that it serves. -/
theorem associate_known {fromQueue : Bool} {q : AssocRequest} {r : Record} {u : State} {ends : State → Prop}
    (h : OnlyRecord q.client r u)
    (hnode : u.cfl.node = .joined ∨ (u.cfl.node = .muted ∧ (r.state = .active ∨ r.state = .offering ∨ r.state = .steered)))
    (hends : ends (associate fromQueue q u)) : KnownAdmitted fromQueue q r u ends := by
  refine associateKnown_admitted h (fun hst => ?_) ?_
  · rcases hnode with hj | ⟨-, hs⟩
    · exact hj
    · simp [hst] at hs
  · rcases hnode with hj | ⟨hm, hs⟩
    · simpa only [associate, hj, h.1] using hends
    · simpa only [associate, hm, h.1, (served_iff _).2 hs, if_true] using hends

/-- R27: what a MUTED node does not serve is refused. -/
theorem associate_muted {fromQueue : Bool} {q : AssocRequest} {u : State} (hm : u.cfl.node = .muted)
    (h : ∀ r, findRecord q.client u = some r → ¬ (r.state = .active ∨ r.state = .offering ∨ r.state = .steered)) :
    associate fromQueue q u = astPlace (.assocResult q.client .refusedMuted none none []) u := by
  cases hr : findRecord q.client u with
  | none => simp only [associate, hm, hr, answerAssociate]
  | some r => simp only [associate, hm, hr, mt (served_iff _).1 (h r hr), Bool.false_eq_true, if_false, answerAssociate]

theorem exec_associate {body : List Byte} {q : AssocRequest} {rest : List LinkRecord} {s : State}
    (h : RequestNext 64 body rest s) (hb : readAssociate body = some q) :
    exec .associate s = .next (associate false q (requestGone rest s)) :=
  takeRequest_next readAssociate (associate false) (by omega) h hb

/-- R52: the head of the wait queue in its turn. -/
theorem exec_waitQueueHead {q : AssocRequest} {behind : List AssocRequest} {s : State} (h : s.hoe.waitQueue = q :: behind)
    (hl : s.hoe.inflight.length < 8) (hfree : LaneFree 1 s) :
    exec .waitQueueHead s = .next (associate true q (s.withHoe { s.hoe with waitQueue := behind })) := by
  have hready : waitReady s = true := by simp [waitReady, h, inflightLimit, hl, hfree.2.1]
  simp only [exec, execWaitQueueHead, h, hready, waitTurn_of_free hfree, Bool.and_self, if_true]

/-- Settles O23, from both queues. -/
theorem pullStarts : Obligations.PullStarts := by
  intro q s
  refine ⟨fun hj hr body rest hnext hbody => associate_new_joined hr hj (exec_associate hnext hbody),
    fun behind hq hl hfree => ?_⟩
  have hexec := exec_waitQueueHead hq hl hfree
  intro u ends muted
  refine ⟨fun hr => ⟨fun hj => associate_new_joined hr hj hexec, fun hm => ?_⟩, fun r hr hn => ⟨fun hnode => ?_, fun hm hno => ?_⟩⟩
  · exact hexec.trans (congrArg _ (associate_muted (u := u) hm fun r hx => by simp [show findRecord q.client u = none from hr] at hx))
  · exact associate_known (onlyRecord_found (s := u) hr hn) hnode hexec
  · refine hexec.trans (congrArg _ (associate_muted (u := u) hm fun x hx => ?_))
    cases (show findRecord q.client u = some r from hr).symm.trans hx
    exact hno

/-! ## The answers that find a free lane (R184) -/

/-- R184: with a free lane, the AST's record takes a place of the lane, in every state with the same lanes and backlogs. -/
theorem astPlace_laneFree (x : OutRecord) {s t : State} (h : LaneFree 2 s) (hlane : t.rsl.lane = s.rsl.lane)
    (hast : t.rsl.astBacklog = s.rsl.astBacklog) (hhoe : t.hoe.backlog = s.hoe.backlog)
    (hcku : t.cku.backlog = s.cku.backlog) : astPlace x t = placeOnLane x t := by
  obtain ⟨hl, h1, h2, h3, -⟩ := h
  exact astPlace_lane x (by rw [hlane]; omega) (hhoe.trans h1) (hcku.trans h2) (hast.trans h3)

/-- R93: a seat that holds a ticket, in a configured node. -/
theorem seatTicketed_configured {c : NodeConfig} {seat : Nat} {s : State} (hc : s.cfl.config = some c) :
    seatTicketed seat s = true ↔ c.firstSeat ≤ seat ∧ seat < c.firstSeat + c.seatCount ∧
      ∃ e, s.ens.seats[seat - c.firstSeat]? = some e ∧
        ((∃ t, e.standing = .issued t) ∨ ∃ t holder time, e.standing = .checkedIn t holder time) := by
  have hentry : ∀ e, seatEntry seat s = some e ↔
      c.firstSeat ≤ seat ∧ seat < c.firstSeat + c.seatCount ∧ s.ens.seats[seat - c.firstSeat]? = some e := fun e => by
    rw [seatEntry_eq_some]
    simp only [seatIndex_eq_some hc]
    exact ⟨fun ⟨i, ⟨h1, h2, hi⟩, he⟩ => ⟨h1, h2, hi ▸ he⟩, fun ⟨h1, h2, he⟩ => ⟨_, ⟨h1, h2, rfl⟩, he⟩⟩
  constructor
  · intro h
    cases he : seatEntry seat s with
    | none => simp [seatTicketed, he] at h
    | some e =>
      obtain ⟨h1, h2, hget⟩ := (hentry e).1 he
      refine ⟨h1, h2, e, hget, ?_⟩
      cases hst : e.standing <;> simp [seatTicketed, he, hst] at h ⊢
  · rintro ⟨h1, h2, e, hget, hst⟩
    have he := (hentry e).2 ⟨h1, h2, hget⟩
    rcases hst with ⟨t, hst⟩ | ⟨t, holder, time, hst⟩ <;> simp [seatTicketed, he, hst]

/-- Settles O21, as the admission of a client without a record where no pull is due. -/
theorem associateAdmitsClient : Obligations.AssociateAdmitsClient := by
  refine ⟨fun c seat s hc => seatTicketed_configured hc, fun body q rest s hnext hbody hr => ?_⟩
  intro u ticketed answer record added
  have hexec := exec_associate hnext hbody
  have hfree : LaneFree 2 s := hnext.2.2.1
  have hru : findRecord q.client u = none := hr
  have hrefused : ∀ {code : AssocCode} {sug : Option Nat}, associate false q u = astPlace (.assocResult q.client code none sug []) u →
      exec .associate s = answer code none sug u := fun h =>
    hexec.trans (congrArg _ (h.trans (astPlace_laneFree _ hfree rfl rfl rfl rfl)))
  have hadded : ∀ {code : AssocCode} {cls : ClientClass},
      exec .associate s = .next (astPlace (.assocResult q.client code (some cls) none []) (added cls)) →
      exec .associate s = answer code (some cls) none (added cls) := fun h => by
    refine h.trans (congrArg _ (astPlace_laneFree _ hfree ?_ ?_ ?_ ?_)) <;> simp [added, u]
  have hopen : s.ast.records.length < 160 → ticketed ∨ s.guests < s.capacity →
      ¬ (160 ≤ u.ast.records.length ∨ (¬ ticketed ∧ u.capacity ≤ u.guests)) := by
    rintro hroom hplace (h | ⟨hno, hguests⟩)
    · exact Nat.not_le.2 hroom h
    · exact hplace.elim hno (Nat.not_lt.2 hguests)
  refine ⟨fun hj hown hst => ?_, fun hj hroom hno hguest => ?_, fun hn => hrefused ?_, fun hn => hrefused ?_, fun hm => hrefused ?_⟩
  · obtain ⟨hfull, hclass⟩ := associate_new_joined (ends := fun x => exec .associate s = .next x) hru hj hexec
    refine ⟨fun hroom ht => ?_, fun hroom hno hguest => ?_, fun hf => ?_⟩
    · have hnf := hopen hroom (.inl ht)
      exact hadded ((hclass .claimant hnf (fun _ => rfl) fun h => absurd ht h).2.1 hown hst)
    · have hnf := hopen hroom (.inr hguest)
      exact hadded ((hclass .guest hnf (fun h => absurd h hno) fun _ => rfl).2.1 hown hst)
    · exact (hfull hf).trans (congrArg _ (astPlace_laneFree _ hfree rfl rfl rfl rfl))
  · obtain ⟨-, hclass⟩ := associate_new_joined (ends := fun x => exec .associate s = .next x) hru hj hexec
    have hnf := hopen hroom (.inr hguest)
    obtain ⟨hforeign, -, hother⟩ := hclass .guest hnf (fun h => absurd h hno) fun _ => rfl
    refine ⟨fun n hn hne => hadded (hforeign ?_), fun a hown hst hne hp => hadded ((hother a hown hst hne).1 hp)⟩
    rw [hn]
    exact not_or.2 ⟨by simp, fun h => hne h.symm⟩
  · have hnu : u.cfl.node = .listening := hn
    simp only [associate, hnu, answerAssociate]
  · have hnu : u.cfl.node = .unconfigured := hn
    simp only [associate, hnu, answerAssociate]
  · exact associate_muted hm fun r hx => by simp [hru] at hx

/-- Settles O22, by the state of the record. -/
theorem associateMeetsRecord : Obligations.AssociateMeetsRecord := by
  intro body q r rest s hnext hbody hr hn u heard answer fresh active
  have hexec := exec_associate hnext hbody
  have hfree : LaneFree 2 s := hnext.2.2.1
  have honly : OnlyRecord q.client r u := onlyRecord_found hr hn
  have hplaced : ∀ {code : AssocCode} {x : State}, x.rsl = u.rsl → x.hoe = u.hoe → x.cku = u.cku →
      exec .associate s = .next (astPlace (.assocResult q.client code (some r.cls) none []) x) →
      exec .associate s = answer code x := fun h1 h2 h3 h =>
    h.trans (congrArg _ (astPlace_laneFree _ hfree (by rw [h1]; rfl) (by rw [h1]; rfl) (by rw [h2]; rfl) (by rw [h3]; rfl)))
  have hknown : s.cfl.node = .joined ∨ (s.cfl.node = .muted ∧ (r.state = .active ∨ r.state = .offering ∨ r.state = .steered)) →
      KnownAdmitted false q r u fun x => exec .associate s = .next x := fun hnode => associate_known honly hnode hexec
  refine ⟨fun hnode => ⟨fun hst => ?_, fun hst => ?_⟩, fun hm hst => ?_, fun hj => ?_⟩
  · have hserved : s.cfl.node = .joined ∨ (s.cfl.node = .muted ∧ (r.state = .active ∨ r.state = .offering ∨ r.state = .steered)) :=
      hnode.imp_right fun hm => ⟨hm, hst.imp_right .inl⟩
    exact hplaced rfl rfl rfl ((hknown hserved).1 hst)
  · have hserved : s.cfl.node = .joined ∨ (s.cfl.node = .muted ∧ (r.state = .active ∨ r.state = .offering ∨ r.state = .steered)) :=
      hnode.imp_right fun hm => ⟨hm, .inr (.inr hst)⟩
    exact hplaced rfl rfl rfl ((hknown hserved).2.1 hst)
  · refine hexec.trans (congrArg _ ((associate_muted (u := u) hm fun x hx => ?_).trans
      (astPlace_laneFree _ hfree rfl rfl rfl rfl)))
    cases (show findRecord q.client u = some r from hr).symm.trans hx
    rcases hst with hst | hst | hst <;> simp [hst]
  · obtain ⟨-, -, hpulling, hfresh, hexpected, hreleasing⟩ := hknown (.inl hj)
    refine ⟨hpulling, fun hst hp => hplaced rfl rfl rfl (hfresh hst hp), fun a hst hp ha => ?_, fun hst => ?_⟩
    · obtain ⟨hbegun, hrefused, hwaits⟩ := hexpected a hst hp ha
      refine ⟨fun hw hl => hbegun ⟨hl, .inl hw, hfree.2.1⟩, fun hw hl => hrefused ⟨hl, .inl hw, hfree.2.1⟩, fun hl => hwaits ?_⟩
      exact fun ht => Nat.not_lt.2 hl ht.1
    · obtain ⟨hgrant, hheld⟩ := hreleasing hst
      exact ⟨fun pre post g since b l hu hg hpre htag => hplaced rfl rfl rfl (hgrant pre post g since b l hu hg hpre htag), hheld⟩

end Sys2Proof.Machine
end

section
/-! The RBC's reports: starts and ends of transmissions, collisions, drops, and the settling of a received frame (R29, R63, R164 to
R177). -/
namespace Sys2Proof.Machine

/-! ## The end of a grant (R29, R63) -/

/-- R37: the record is gone. -/
theorem findRecord_recordGone (r : Record) (s : State) : findRecord r.client (recompute (recordGone r s)) = none := by
  have hrecords : (recordGone r s).ast.records = s.ast.records.filter fun x => x.client ≠ r.client := by
    unfold recordGone
    dsimp only
    split <;> rfl
  rw [recompute_findRecord, findRecord, hrecords, List.find?_eq_none]
  intro x hx
  simpa using (List.mem_filter.1 hx).2

/-- R29, R63: what the end of a grant comes to, by the association that the record holds. -/
theorem grantEnded_ends {lost : Bool} {client : Nat} {r : Record} {w x : State} {ends : State → Prop}
    (hr : findRecord client w = some r) (hst : r.state = .releasing) (hs : r.subs.Nodup)
    (hx : (if lost then raise .contextLost (recompute (recordGone r w)) else recompute (recordGone r w)) = x)
    (hends : ends (grantEnded lost client w)) : GrantEnds r x ends := by
  obtain ⟨-, rfl⟩ := findRecord_mem hr
  have hgone : removeGranted lost r.client w = x := by
    rw [removeGranted, removeRecord_eq hr hs]
    exact hx
  have hnone : findRecord r.client x = none := by
    rw [← hx]
    split <;> exact findRecord_recordGone r w
  simp only [grantEnded, hr, hst, if_true, hgone] at hends
  refine ⟨fun hheld => ?_, fun q hheld hc => ⟨fun hm => ?_, fun hj => ?_⟩⟩
  · simpa only [hheld] using hends
  all_goals
    simp only [hheld] at hends
    have habsent : findRecord ({ q with prevStation := r.peer, prevSection := x.ownSection } : AssocRequest).client x = none :=
      hc.symm ▸ hnone
  · rwa [associate_muted hm fun y hy => by simp [habsent] at hy] at hends
  · exact associate_new_joined habsent hj hends

theorem grantEnded_absent {lost : Bool} {client : Nat} {w : State} (h : findRecord client w = none) :
    grantEnded lost client w = w := by
  simp only [grantEnded, h]

/-! ## Starts and ends of a transmission (R171 to R173) -/

theorem reportSent_plain {g : TxFrame} (s : State) (h : ∀ client since b l, g.body ≠ .ctxGrant client since b l) :
    reportSent g s = frameMarked g.tag .ended s := by
  unfold reportSent
  split
  · next client since b l hb => exact absurd hb (h client since b l)
  · rfl

theorem reportSent_grant {g : TxFrame} {client since : Nat} {b : Option Binding} {l : List Nat} (s : State)
    (h : g.body = .ctxGrant client since b l) : reportSent g s = grantEnded false client s := by
  simp only [reportSent, h]

/-- R171: what a start of transmission takes. -/
theorem exec_txStart {idle : Nat} {s : State} (hj : s.cfl.node = .joined) (ht : s.rbc.transmitter = none)
    (hc : s.rbc.carrier = false) :
    exec (.txStart idle) s = .next (match nextToSend (idleNow idle s) (measureIdle idle s).rbc with
      | some (f, r) => frameMarked f.tag .inTransmission ((measureIdle idle s).withRbc (r.sending s.station f 0))
      | none => measureIdle idle s) := by
  have hnow : (measureIdle idle s).rbc.idle = idleNow idle s := rfl
  simp only [exec, execTxStart]
  rw [if_pos ⟨hj, ht, hc⟩, hnow]
  cases nextToSend (idleNow idle s) (measureIdle idle s).rbc <;> rfl

theorem exec_frameSent {t : Transmitter} {s : State} (ht : s.rbc.transmitter = some t) (hp : t.phase = .sending)
    (hc : s.rbc.carrier = false) :
    exec .frameSent s = .next (reportSent t.frame
      (s.withRbc { s.rbc with transmitter := none, driven := [], idle := 0, jamReported := false })) := by
  simp only [exec, execFrameSent, ht, hp, hc, and_self, if_true]

/-- Settles O54, command by command. -/
theorem framesAreSent : Obligations.FramesAreSent := by
  intro idle s now waits
  have hwaits : s.cfl.node = .joined → s.rbc.transmitter = none → s.rbc.carrier = false →
      nextToSend now (measureIdle idle s).rbc = none → waits (.txStart idle) := fun hj ht hc hnext => by
    have hstart := exec_txStart (idle := idle) hj ht hc
    rw [hnext] at hstart
    exact hstart
  refine ⟨fun hno => ?_, fun hj ht hc => ⟨fun g l hu => ⟨fun hlt => ?_, fun hle => ?_⟩,
    fun g l hq hu => ⟨fun hlt => ?_, fun hle => ?_⟩, fun hu hq => ?_⟩, fun t ht => ?_⟩
  · have hcannot : ¬ (s.cfl.node = .joined ∧ s.rbc.transmitter = none ∧ s.rbc.carrier = false) := by
      rintro ⟨hj, ht, hc⟩
      simp [hj, ht, hc] at hno
    exact if_neg hcannot
  · have hnext : nextToSend now (measureIdle idle s).rbc = none := by
      simp [nextToSend, measureIdle, hu, classGap, Nat.not_le.2 hlt]
    exact hwaits hj ht hc hnext
  · have hnext : nextToSend now (measureIdle idle s).rbc = some (g, { (measureIdle idle s).rbc with urgent := l }) := by
      simp [nextToSend, measureIdle, hu, classGap, hle]
    rw [exec_txStart hj ht hc, hnext]
    rfl
  · have hnext : nextToSend now (measureIdle idle s).rbc = none := by
      simp [nextToSend, measureIdle, hu, hq, classGap, Nat.not_le.2 hlt]
    exact hwaits hj ht hc hnext
  · have hnext : nextToSend now (measureIdle idle s).rbc = some (g, { (measureIdle idle s).rbc with routine := l }) := by
      simp [nextToSend, measureIdle, hu, hq, classGap, hle]
    rw [exec_txStart hj ht hc, hnext]
    rfl
  · have hnext : nextToSend now (measureIdle idle s).rbc = none := by simp [nextToSend, measureIdle, hu, hq]
    exact hwaits hj ht hc hnext
  intro ended
  refine ⟨fun hp hc => ⟨fun hno => ?_, fun client since b l hb => ⟨fun r hr hst htable => ?_, fun hr => ?_⟩⟩, fun n hp => ?_,
    fun hp hc => ?_⟩
  · exact (exec_frameSent ht hp hc).trans (congrArg _ (reportSent_plain _ hno))
  · obtain ⟨-, -, -, -, hrecords⟩ := htable
    have hexec := (exec_frameSent ht hp hc).trans (congrArg _ (reportSent_grant ended hb))
    exact grantEnded_ends (lost := false) (w := ended) hr hst (hrecords r (findRecord_mem hr).1).2.1 rfl hexec
  · exact (exec_frameSent ht hp hc).trans (congrArg _ ((reportSent_grant ended hb).trans (grantEnded_absent hr)))
  · simp only [exec, execBackoffEnd, ht, hp]
  · intro gap
    have hretry : exec (.retryAttemptStart idle) s = if gap ≤ now then
        .next ((measureIdle idle s).withRbc ((measureIdle idle s).rbc.sending s.station t.frame t.collisions))
      else .next (measureIdle idle s) := by
      simp only [exec, execRetryAttemptStart, ht]
      exact if_pos ⟨hp, hc⟩
    exact ⟨fun hlt => hretry.trans (if_neg (Nat.not_le.2 hlt)), fun hle => hretry.trans (if_pos hle)⟩

/-! ## The drop of a frame (R175) -/

theorem reportDropped_plain {g : TxFrame} (w : State) (h : plainFrame g.body = true) : reportDropped g w = w := by
  cases hb : g.body with
  | ctxPull | ctxGrant | steerOffer | checkinClaim => simp [plainFrame, hb] at h
  | loadAdvert | ctxNone | ctxHeld | steerAccept | steerDecline | checkinVerdict | checkinNote | incident | resyncRequest =>
    simp only [reportDropped, hb]

/-- The in-flight entry of a client becomes another. -/
def entryBecomes (client : Nat) (x : Inflight) (w : State) : State :=
  w.withHoe { w.hoe with inflight := w.hoe.inflight.map fun y => if y.client = client then x else y }

/-- R47: a client's entry changes. -/
theorem updateInflight_found {e : Inflight} {w : State} (hn : (w.hoe.inflight.map Inflight.client).Nodup)
    (he : e ∈ w.hoe.inflight) (f : Inflight → Inflight) : updateInflight e.client f w = entryBecomes e.client (f e) w := by
  unfold updateInflight entryBecomes
  congr 2
  dsimp only
  congr 1
  refine List.map_congr_left fun y hy => ?_
  by_cases hc : y.client = e.client
  · rw [List.inj_on_of_nodup_map hn hy he hc]
  · simp [hc]

/-- A second change of an entry, by a function. -/
theorem updateInflight_entryBecomes {c : Nat} {x : Inflight} {w : State} (hc : x.client = c) (f : Inflight → Inflight) :
    updateInflight c f (entryBecomes c x w) = entryBecomes c (f x) w := by
  simp only [updateInflight, entryBecomes, State.withHoe_hoe, State.withHoe_twice, List.map_map]
  congr 2
  refine List.map_congr_left fun y _ => ?_
  by_cases hy : y.client = c <;> simp [hy, hc]

/-- R57, R48: the drop of a pull's frame, by its attempt and the URGENT queue. -/
theorem pullAttemptFails_dropped {e : Inflight} {r : Record} {w : State} (hr : OnlyRecord e.client r w) :
    let ended := entryBecomes e.client e.dropped w
    (e.attempt = 1 → w.cfl.node = .joined → w.rbc.urgent.length < 8 →
      pullAttemptFails e.dropped ended = urgentSent e.peer (.ctxPull e.client r.since 2)
        (entryBecomes e.client { e with attempt := 2, frame := .queued, tag := w.rbc.nextTag, timer := some 400 } w)) ∧
    (e.attempt = 1 → w.cfl.node = .joined → 8 ≤ w.rbc.urgent.length →
      pullAttemptFails e.dropped ended = pullFailed e.client r
        (ended.withRbc { w.rbc with txDrops := min 65535 (w.rbc.txDrops + 1) })) ∧
    (e.attempt ≠ 1 ∨ w.cfl.node ≠ .joined → pullAttemptFails e.dropped ended = pullFailed e.client r ended) := by
  intro ended
  have hunqueued : e.dropped.frame ≠ .queued := by simp [Inflight.dropped]
  have honly : OnlyRecord e.client r ended := onlyRecord_congr rfl hr
  have hsince : sinceOf e.dropped.client ended = r.since := honly.sinceOf
  have hsecond : e.attempt = 1 → pullAttemptFails e.dropped ended = secondAttempt e.dropped ended := fun h => if_pos h
  have hended : updateInflight e.client (fun x => { x with frame := .ended }) ended = ended :=
    updateInflight_entryBecomes (x := e.dropped) rfl _
  refine ⟨fun ha hj hroom => ?_, fun ha hj hfull => ?_, fun hno => ?_⟩
  · rw [hsecond ha, secondAttempt_sent (s := ended) hunqueued hj hroom, hsince]
    have hupdated := updateInflight_entryBecomes (w := w) (x := e.dropped) (c := e.client) rfl
      fun x => { x with attempt := 2, frame := .queued, tag := w.rbc.nextTag, timer := some 400 }
    exact congrArg (urgentSent e.peer (.ctxPull e.client r.since 2)) hupdated
  · have hfullFrame := fun b => queueFrame_urgent_full e.dropped.peer (.ctxPull e.dropped.client b 2) ended hj rfl rfl hfull
    rw [hsecond ha, secondAttempt_refused hunqueued fun b => (hfullFrame b).1, (hfullFrame _).2]
    have hkept := congrArg (fun x : State => x.withRbc { w.rbc with txDrops := min 65535 (w.rbc.txDrops + 1) }) hended
    exact (congrArg (pullEndsFresh true e.client) hkept).trans (pullEndsFresh_eq (onlyRecord_congr rfl honly))
  · rcases hno with ha | hj
    · exact (if_neg ha).trans (pullEndsFresh_eq honly)
    · by_cases ha : e.attempt = 1
      · have hrefused := fun b => queueFrame_not_joined e.dropped.peer (.ctxPull e.dropped.client b 2) ended hj
        rw [hsecond ha, secondAttempt_refused hunqueued fun b => (hrefused b).2, (hrefused _).1]
        exact (congrArg (pullEndsFresh true e.client) hended).trans (pullEndsFresh_eq honly)
      · exact (if_neg ha).trans (pullEndsFresh_eq honly)

/-- R175: a claim learns that its frame has ended. -/
def claimFrameEnded (tag : Nat) (w : State) : State :=
  w.withCku { w.cku with claims := w.cku.claims.map fun x => if x.tag = tag then { x with frame := .ended } else x }

/-- R105: the end of a claim whose frame does not wait. -/
theorem claimGone_unqueued {c : Nat} {k : Claim} {s : State} (h : findClaim c s = some k) (hf : k.frame ≠ .queued) :
    claimGone c s = s.withCku { s.cku with claims := s.cku.claims.filter fun e => e.client ≠ c } := by
  rw [← dropClaim_eq, dropClaim]
  simp only [h, if_neg hf]

/-- R105, R106: the drop of a claim's frame ends the claim, whose frame waits no more. -/
theorem claimGone_dropped {k : Claim} {tag : Nat} {w : State} (hclients : (w.cku.claims.map Claim.client).Nodup)
    (htags : (w.cku.claims.map Claim.tag).Nodup) (hk : w.cku.claims.find? (fun k => k.tag == tag) = some k) :
    claimGone k.client (claimFrameEnded tag w) =
      w.withCku { w.cku with claims := w.cku.claims.filter fun y => y.client ≠ k.client } := by
  have hmem := List.mem_of_find?_eq_some hk
  have htag : k.tag = tag := by simpa using List.find?_some hk
  let l := w.cku.claims.map fun x => if x.tag = tag then { x with frame := .ended } else x
  have hfind : ∃ k', l.find? (fun e => e.client == k.client) = some k' ∧ k'.frame ≠ .queued := by
    have hended : ({ k with frame := .ended } : Claim) ∈ l := by
      have hk' := List.mem_map_of_mem (f := fun x : Claim => if x.tag = tag then { x with frame := .ended } else x) hmem
      rwa [if_pos htag] at hk'
    obtain ⟨k', hk'⟩ : ∃ k', l.find? (fun e => e.client == k.client) = some k' := by
      rw [← Option.isSome_iff_exists, List.find?_isSome]
      exact ⟨_, hended, by simp⟩
    refine ⟨k', hk', ?_⟩
    obtain ⟨y, hy, rfl⟩ := List.mem_map.1 (List.mem_of_find?_eq_some hk')
    have hyc : y.client = k.client := by
      have htest := List.find?_some hk'
      by_cases hyt : y.tag = tag <;> simpa [hyt] using htest
    rw [List.inj_on_of_nodup_map hclients hy hmem hyc, if_pos htag]
    simp
  obtain ⟨k', hk', hframe⟩ := hfind
  have hfilter : l.filter (fun y => y.client ≠ k.client) = w.cku.claims.filter fun y => y.client ≠ k.client := by
    have hothers : ∀ y ∈ w.cku.claims.filter (fun y => y.client ≠ k.client),
        (if y.tag = tag then { y with frame := .ended } else y) = y := fun y hy => by
      obtain ⟨hy, hyc⟩ := List.mem_filter.1 hy
      refine if_neg fun hyt => ?_
      have hyk := List.inj_on_of_nodup_map htags hy hmem (hyt.trans htag.symm)
      simp [hyk] at hyc
    have htest : ((fun y : Claim => decide (y.client ≠ k.client)) ∘ fun x => if x.tag = tag then { x with frame := .ended } else x) =
        fun y => decide (y.client ≠ k.client) := by
      funext x
      by_cases hx : x.tag = tag <;> simp [hx]
    rw [List.filter_map, htest, List.map_congr_left hothers, List.map_id']
  rw [claimGone_unqueued (s := claimFrameEnded tag w) hk' hframe]
  exact congrArg (fun x => w.withCku { w.cku with claims := x }) hfilter

/-- R175: what the drop of a frame comes to. -/
theorem reportDropped_ends {g : TxFrame} {w : State} {ends : State → Prop} (htable : TableInv w) (hapart : EntriesApart w)
    (hends : ends (reportDropped g w)) : DropEnds g w ends := by
  obtain ⟨-, hn, -, -, hrecords⟩ := htable
  obtain ⟨hentries, hclients, htags⟩ := hapart
  have hsubs : ∀ {c r}, findRecord c w = some r → r.subs.Nodup := fun h => (hrecords _ (findRecord_mem h).1).2.1
  refine ⟨fun hp => ?_, fun client since b l hb => ⟨fun hr => ?_, fun r hr hst => ?_⟩,
    fun client hbody => ⟨fun hno => ?_, fun e he r hr => ?_⟩,
    fun client ticket seat serial tier hb => ⟨fun hno => ?_, fun k hk => ?_⟩⟩
  · rwa [reportDropped_plain w hp] at hends
  · simp only [reportDropped, hb] at hends
    rwa [grantEnded_absent hr] at hends
  · simp only [reportDropped, hb] at hends
    exact grantEnded_ends (lost := true) hr hst (hsubs hr) rfl hends
  · have hnone : entryOf g w = none := by simpa [entryOf] using hno
    rcases hbody with ⟨seat, n, hb⟩ | ⟨since, n, hb⟩ <;> simpa only [reportDropped, hb, hnone] using hends
  · have hentry : entryOf g w = some e := he
    have hmem := List.mem_of_find?_eq_some he
    have hdropped : updateInflight e.client Inflight.dropped w = entryBecomes e.client e.dropped w :=
      updateInflight_found hentries hmem _
    have honly : OnlyRecord e.client r w := onlyRecord_found hr hn
    intro entry ended
    refine ⟨fun seat n hb => ?_, fun since n hb => ?_⟩
    · simp only [reportDropped, hb, hentry, hdropped] at hends
      rw [offerEnds_eq (s := entryBecomes e.client e.dropped w) hn hr] at hends
      exact hends
    · simp only [reportDropped, hb, hentry, hdropped] at hends
      obtain ⟨hsent, hrefused, hfails⟩ := pullAttemptFails_dropped honly
      exact ⟨fun ha hj hroom => hsent ha hj hroom ▸ hends, fun ha hj hfull => hrefused ha hj hfull ▸ hends,
        fun hno => hfails hno ▸ hends⟩
  · have hnone : claimOf g w = none := by simpa [claimOf] using hno
    simpa only [reportDropped, hb, hnone] using hends
  · have hclaim : claimOf g w = some k := hk
    simp only [reportDropped, hb, hclaim] at hends
    have hends : ends (endClaim k .ownerSilent 0 (claimFrameEnded g.tag w)) := hends
    have hgone := claimGone_dropped hclients htags hk
    intro gone
    refine ⟨fun hr => ?_, fun r hr => ⟨fun hst => ?_, fun hst => ?_⟩⟩
    · rwa [endClaim_absent (s := claimFrameEnded g.tag w) hr, hgone] at hends
    · rw [endClaim_served (s := claimFrameEnded g.tag w) hr ((served_iff _).2 hst), hgone,
        relayResult_refused (r := r) (by decide) (by simpa only [findRecord, State.withCku_ast, ckuPlace_ast] using hr)
          (by simpa only [State.withCku_ast, ckuPlace_ast] using hn) (hsubs hr)] at hends
      exact hends
    · have hunserved : ¬ r.state.served = true := by rcases hst with h | h | h <;> simp [h, RecordState.served]
      rwa [endClaim_unserved (s := claimFrameEnded g.tag w) hr hunserved, hgone] at hends

/-- Settles O55, by the number of collisions. -/
theorem collisionsDropFrames : Obligations.CollisionsDropFrames := by
  intro t s ht hp
  have hexec : exec .collision s = .next (collide t s) := by simp only [exec, execCollision, ht, hp, if_true]
  refine ⟨fun hlt => ?_, fun hle => ?_⟩
  · refine ⟨_, hexec, Config.freeDraw s.free % 2 ^ min (t.collisions + 1) 5, Nat.mod_lt _ (Nat.two_pow_pos _), ?_⟩
    exact if_neg (Nat.not_le.2 hlt)
  · intro w
    have hdrop : exec .collision s = .next (reportDropped t.frame w) := hexec.trans (congrArg _ (if_pos hle))
    exact ⟨fun hplain => hdrop.trans (congrArg _ (reportDropped_plain w hplain)), fun htable hapart =>
      reportDropped_ends (w := w) htable hapart hdrop⟩

/-! ## Received frames (R165 to R167, R177) -/

/-- R167: a frame of a kind that the node does not know goes to no block. -/
theorem route_unknown {kind : Byte} (source dest : Nat) (p : List Byte) (s : State) (h : knownFrameKind kind = false) :
    route kind source dest p s = s := by
  have hne : ∀ k, (1 ≤ k ∧ k ≤ 13) ∨ (32 ≤ k ∧ k ≤ 37) → kind.toNat ≠ k := by
    rintro k hk rfl
    simp only [knownFrameKind, Bool.or_eq_false_iff, Bool.and_eq_false_iff, decide_eq_false_iff_not] at h
    omega
  unfold route
  split
  case h_17 => rfl
  all_goals
    next hk => exact absurd hk (hne _ (by decide))

/-- R202: an ENTITLEMENT payload with a code out of range is discarded. -/
theorem readEntitlement_badCodes {p : List Byte}
    (h : 4 < fieldAt p 2 1 ∨ 2 < fieldAt p 9 1 ∨ (fieldAt p 2 1 = 4 ∧ (fieldAt p 12 1 = 0 ∨ 3 < fieldAt p 12 1))) :
    readEntitlement p = none := by
  unfold readEntitlement
  split
  · rcases h with haction | htier | ⟨hfill, hstate⟩
    · have hnone : actionOfCode (fieldAt p 2 1) = none := List.getElem?_eq_none haction
      simp only [hnone]
    · have hnone : tierOfCode (fieldAt p 9 1) = none := List.getElem?_eq_none htier
      split
      · next ht _ _ => exact absurd (hnone.symm.trans ht) nofun
      · rfl
    · have hnone : fillStateOfCode (fieldAt p 12 1) = none := by
        unfold fillStateOfCode
        split
        case h_4 => rfl
        all_goals
          next hcode => omega
      have haction : actionOfCode (fieldAt p 2 1) = some .resyncFill := by rw [hfill]; rfl
      split
      · next ha _ _ _ => exact if_pos ⟨Option.some.inj (ha.symm.trans haction), hnone⟩
      · rfl
  · rfl

/-- R165: a frame of a kind from another station that its block discards. -/
theorem receive_discarded {kind source : Nat} {f : BusFrame} {s : State} (h : FrameTaken kind source f s)
    (hroute : ∀ dest t, route (BitVec.ofNat 8 kind) source dest f.payload t = t) :
    receive (BitVec.ofNat 8 kind) f s = carrierEnded s :=
  (receive_taken h).trans (hroute _ _)

theorem receive_settled {kind : Byte} {f : BusFrame} {s : State} (hs : s.rbc.sends = false) (hr : s.rbc.receiver = true)
    (ho : s.rbc.ownRun = false) : receive kind f s = settleFrame kind f (carrierEnded s) := by
  simp [receive, hs, hr, ho]

theorem settleFrame_foreign {kind : Byte} {f : BusFrame} {s : State} (hs : f.source.toNat ≠ s.station)
    (hg : frameGood kind f = true) (h0 : f.dest.toNat ≠ 0) (hd : f.dest.toNat ≠ s.station) : settleFrame kind f s = s := by
  simp [settleFrame, hg, hs, h0, hd]

theorem settleFrame_clash {kind : Byte} {f : BusFrame} {s : State} (hs : f.source.toNat = s.station)
    (hg : frameGood kind f = true) : settleFrame kind f s = addressClash s := by
  simp [settleFrame, hg, hs]

/-- R166, R200: a clash mutes a node in LISTENING or JOINED only. -/
theorem addressClash_quiet {s : State} (hl : s.cfl.node ≠ .listening) (hj : s.cfl.node ≠ .joined) :
    addressClash s = raise .addressClash s :=
  if_neg (not_or.2 ⟨hl, hj⟩)

theorem addressClash_mutes {s : State} (h : s.cfl.node = .listening ∨ s.cfl.node = .joined) :
    addressClash s = s.rbc.held.foldl (fun y g => reportDropped g y) (mutedState (raise .addressClash s)) :=
  if_pos h

/-- R175: the drops of frames on which nothing waits change nothing. -/
theorem foldl_reportDropped_plain {l : List TxFrame} (s : State) (h : ∀ g ∈ l, plainFrame g.body = true) :
    l.foldl (fun y g => reportDropped g y) s = s := by
  induction l with
  | nil => rfl
  | cons g l ih =>
    rw [List.foldl_cons, reportDropped_plain s (h g List.mem_cons_self)]
    exact ih fun x hx => h x (List.mem_cons_of_mem g hx)

/-- Settles O57, by the step that settles the frame. -/
theorem framesAreSettled : Obligations.FramesAreSettled := by
  intro kind source f s u
  refine ⟨fun h => congrArg Host.Outcome.next (receive_discarded h fun _ _ => rfl),
    fun h => congrArg Host.Outcome.next (receive_discarded h fun _ _ => rfl),
    fun h => congrArg Host.Outcome.next (receive_discarded h fun _ _ => rfl),
    fun h hbad => congrArg Host.Outcome.next (receive_discarded h fun dest t => ?_), fun hk h => ?_, fun x hx => ?_⟩
  · have hroute : route 33#8 source dest f.payload t =
        match readEntitlement f.payload with | some a => takeEntitlement a t | none => t := rfl
    rw [hroute, readEntitlement_badCodes hbad]
  · have htaken : receive (BitVec.ofNat 8 kind.toNat) f s = u := receive_discarded h fun dest t => by
      rw [BitVec.ofNat_toNat, BitVec.setWidth_eq]
      exact route_unknown source dest f.payload t hk
    rw [BitVec.ofNat_toNat, BitVec.setWidth_eq] at htaken
    exact congrArg Host.Outcome.next htaken
  · intro i g
    have hexec : exec i s = .next (receive x.2.1 g s) := exec_frameCommands kind f s x hx
    refine ⟨fun hs => hexec.trans (congrArg _ (if_pos hs)), fun hs hoff => hexec.trans (congrArg _ ?_), fun hs hr ho => ?_⟩
    · rcases hoff with h | h <;> simp [receive, hs, h, u]
    · have hsettled : exec i s = .next (settleFrame x.2.1 g u) := hexec.trans (congrArg _ (receive_settled hs hr ho))
      refine ⟨fun hbad => hsettled.trans (congrArg _ (if_pos (by simp [hbad]))),
        fun hg hother h0 hd => hsettled.trans (congrArg _ (settleFrame_foreign (s := u) hother hg h0 hd)),
        fun hg hown => ?_⟩
      have hclash : exec i s = .next (addressClash u) := hsettled.trans (congrArg _ (settleFrame_clash (s := u) hown hg))
      refine ⟨fun hl hj => hclash.trans (congrArg _ (addressClash_quiet (s := u) hl hj)), fun hnode => ?_⟩
      intro held muted
      have hmuted : exec i s = .next (held.foldl (fun y h => reportDropped h y) muted) :=
        hclash.trans (congrArg _ (addressClash_mutes (s := u) hnode))
      exact ⟨fun hplain => hmuted.trans (congrArg _ (foldl_reportDropped_plain muted hplain)), reportDropped,
        fun h y _ htable hapart => reportDropped_ends htable hapart rfl, hmuted⟩

end Sys2Proof.Machine
end

section
/-! The DEPART of a client without a record, and the replies that end a pull without context (R53 to R55, R59). -/
namespace Sys2Proof.Machine

/-! ## DEPART without a record (R53) -/

/-- Settles O24: a DEPART that finds no record is the withdrawal from the wait queue, and a queue without the client stays as it is. -/
theorem departWithdrawsWaiting : Obligations.DepartWithdrawsWaiting := by
  intro body client rest s hnext hbody hr
  have hru : findRecord client (requestGone rest s) = none := hr
  have hexec : exec .depart s = .next (withdrawWaiting client (requestGone rest s)) := by
    rw [exec_depart hnext hbody, takeDepart, hru]
  refine ⟨hexec, fun hno => ?_⟩
  have hkept : s.hoe.waitQueue.filter (fun w => w.client ≠ client) = s.hoe.waitQueue :=
    List.filter_eq_self.2 fun w hw => by simpa using hno w hw
  rw [hexec, withdrawWaiting, requestGone_hoe, hkept]
  rfl

/-! ## The end of a pull without context (R54, R55, R59) -/

/-- R59: a pull that ends with a fresh context and has not failed. -/
theorem pullEndsFresh_kept {c : Nat} {r : Record} {s : State} (h : OnlyRecord c r s) :
    pullEndsFresh false c s = hoePlace (.assocResult c .acceptedFresh (some r.cls) none [])
      (recordBecomes c (activeRecord r) (inflightGone c s)) := by
  have hgone : OnlyRecord c r (inflightGone c s) := onlyRecord_congr rfl h
  have hbecomes : activateRecord c (dropInflight c s) = recordBecomes c (activeRecord r) (inflightGone c s) := by
    rw [dropInflight_eq]
    exact hgone.updateRecord _
  have hcls := (hgone.becomes (r' := activeRecord r) h.client).classOf
  rw [pullEndsFresh, hbecomes]
  exact congrArg (fun x => hoePlace (.assocResult c .acceptedFresh x none []) _) hcls

/-- R54, R55: a reply that is ignored is one whose test fails. -/
theorem reply_untaken {kind : InflightKind} {source client : Nat} {s : State} (h : ReplyIgnored kind source client s) :
    ¬ (takesReplies s && (matching kind source client s).isSome) = true := by
  intro hb
  obtain ⟨ht, hm⟩ := Bool.and_eq_true_iff.1 hb
  rcases h with ⟨hj, hmu⟩ | hno
  · exact ((takesReplies_iff s).1 ht).elim hj hmu
  · simp [matching_none hno] at hm

theorem reply_taken {kind : InflightKind} {source client : Nat} {e : Inflight} {s : State}
    (hj : s.cfl.node = .joined ∨ s.cfl.node = .muted) (he : EntryMatches kind source client e s) :
    (takesReplies s && (matching kind source client s).isSome) = true := by
  rw [(takesReplies_iff s).2 hj, matching_isSome he]
  rfl

/-- R59: a CTX_HELD that matches removes the record of the pull. -/
theorem takeHeld_matches {source client : Nat} {e : Inflight} {r : Record} {s : State}
    (hj : s.cfl.node = .joined ∨ s.cfl.node = .muted) (he : EntryMatches .pull source client e s)
    (hr : findRecord client s = some r) (hsubs : r.subs.Nodup) (hst : r.state = .pulling) :
    takeHeld source client s =
      hoePlace (.assocResult client .refusedHeldElsewhere none none []) (recompute (recordGone r s)) := by
  obtain ⟨-, rfl⟩ := findRecord_mem hr
  rw [takeHeld, if_pos (reply_taken hj he), dropInflight_eq, removeRecord_eq (s := inflightGone r.client s) hr hsubs,
    recordGone_inflightGone hst]

theorem exec_ctxNone {source client : Nat} {f : BusFrame} {s : State} (h : FrameTaken 4 source f s)
    (hr : readClient f.payload = some client) : exec (.ctxNone f) s = .next (takeNone source client (carrierEnded s)) := by
  have hroute : route 4#8 source f.dest.toNat f.payload (carrierEnded s) = takeNone source client (carrierEnded s) := by
    simp [route, hr]
  exact congrArg Host.Outcome.next ((receive_taken h).trans hroute)

theorem exec_ctxHeld {source client : Nat} {f : BusFrame} {s : State} (h : FrameTaken 5 source f s)
    (hr : readClient f.payload = some client) : exec (.ctxHeld f) s = .next (takeHeld source client (carrierEnded s)) := by
  have hroute : route 5#8 source f.dest.toNat f.payload (carrierEnded s) = takeHeld source client (carrierEnded s) := by
    simp [route, hr]
  exact congrArg Host.Outcome.next ((receive_taken h).trans hroute)

/-- Settles O33, reply by reply: one that is ignored fails the test of both, and one that matches passes it. -/
theorem pullRepliesTaken : Obligations.PullRepliesTaken := by
  intro source client e r f s htable hread
  obtain ⟨-, hn, -, -, hrecords⟩ := htable
  refine ⟨fun hi => ⟨fun hf => ?_, fun hf => ?_⟩, fun hj he hr => ⟨fun hf => ?_, fun hf hst => ?_⟩⟩
  · exact (exec_ctxNone hf hread).trans (congrArg _ (if_neg (reply_untaken (s := carrierEnded s) hi)))
  · exact (exec_ctxHeld hf hread).trans (congrArg _ (if_neg (reply_untaken (s := carrierEnded s) hi)))
  · have honly : OnlyRecord client r (carrierEnded s) := onlyRecord_congr rfl (onlyRecord_found hr hn)
    have htaken : takeNone source client (carrierEnded s) = pullEndsFresh false client (carrierEnded s) :=
      if_pos (reply_taken (s := carrierEnded s) hj he)
    exact (exec_ctxNone hf hread).trans (congrArg _ (htaken.trans (pullEndsFresh_kept honly)))
  · obtain ⟨-, hsubs, -⟩ := hrecords r (findRecord_mem hr).1
    exact (exec_ctxHeld hf hread).trans (congrArg _ (takeHeld_matches (s := carrierEnded s) hj he hr hsubs hst))

end Sys2Proof.Machine
end

section
/-! The response timeouts of a pull and of an offer (R48, R57, R69). -/
namespace Sys2Proof.Machine

/-! ## A frame that is withdrawn, an offer that is refused (R168, R170) -/

/-- R57, R170: an entry's frame is withdrawn if it still waits. -/
def frameWithdrawn (e : Inflight) (s : State) : State := if e.frame = .queued then withdrawFrame e.tag s else s

/-- R168: a frame has been refused; only a JOINED node counts it. -/
def offerRefused (s : State) : State :=
  if s.cfl.node = .joined then s.withRbc { s.rbc with txDrops := min 65535 (s.rbc.txDrops + 1) } else s

@[simp] theorem frameWithdrawn_hoe (e : Inflight) (s : State) : (frameWithdrawn e s).hoe = s.hoe := by
  unfold frameWithdrawn
  split <;> rfl

@[simp] theorem frameWithdrawn_cfl (e : Inflight) (s : State) : (frameWithdrawn e s).cfl = s.cfl := by
  unfold frameWithdrawn
  split <;> rfl

@[simp] theorem frameWithdrawn_ast (e : Inflight) (s : State) : (frameWithdrawn e s).ast = s.ast := by
  unfold frameWithdrawn
  split <;> rfl

@[simp] theorem offerRefused_hoe (s : State) : (offerRefused s).hoe = s.hoe := by
  unfold offerRefused
  split <;> rfl

@[simp] theorem offerRefused_ast (s : State) : (offerRefused s).ast = s.ast := by
  unfold offerRefused
  split <;> rfl

theorem frameWithdrawn_offerRefused (e : Inflight) (s : State) :
    frameWithdrawn e (offerRefused s) = offerRefused (frameWithdrawn e s) := by
  unfold frameWithdrawn
  split
  · by_cases hj : s.cfl.node = .joined
    · rw [offerRefused, if_pos hj]
      exact (if_pos hj).symm
    · rw [offerRefused, if_neg hj]
      exact (if_neg hj).symm
  · rfl

/-- R168: an URGENT frame is refused outside JOINED and by a full queue. -/
theorem queueFrame_urgent_refused (dest : Nat) {body : OutFrame} {s : State} (hu : body.isUrgent = true)
    (ha : body.isAdvert = false) (hfull : s.cfl.node = .joined → 8 ≤ s.rbc.urgent.length) :
    queueAnswer dest body s = none ∧ queueFrame dest body s = offerRefused s := by
  by_cases hj : s.cfl.node = .joined
  · rw [offerRefused, if_pos hj]
    exact queueFrame_urgent_full dest body s hj hu ha (hfull hj)
  · rw [offerRefused, if_neg hj]
    exact (queueFrame_not_joined dest body s hj).symm

/-- R170: what a withdrawal leaves of the queues where no ROUTINE frame has the tag. -/
theorem frameWithdrawn_urgent {e : Inflight} {s : State} (hroutine : ∀ g ∈ s.rbc.routine, g.tag ≠ e.tag) :
    frameWithdrawn e s = s.withRbc { s.rbc with
      urgent := if e.frame = .queued then s.rbc.urgent.filter (fun g => g.tag ≠ e.tag) else s.rbc.urgent } := by
  unfold frameWithdrawn
  split
  · have hkept : s.rbc.routine.filter (fun g => g.tag ≠ e.tag) = s.rbc.routine :=
      List.filter_eq_self.2 fun g hg => by simpa using hroutine g hg
    rw [withdrawFrame, Rbc.withdraw, hkept]
  · rfl

/-! ## The entry of a client (R47, R49) -/

/-- R47: the changed entry is the one found for the client. -/
theorem findInflight_updateInflight {c : Nat} {f : Inflight → Inflight} (hf : ∀ e, (f e).client = e.client) (s : State) :
    findInflight c (updateInflight c f s) = (findInflight c s).map f := by
  have htest : ((fun x : Inflight => x.client == c) ∘ fun x => if x.client = c then f x else x) = fun x => x.client == c := by
    funext x
    by_cases hx : x.client = c <;> simp [hx, hf]
  rw [findInflight, updateInflight, State.withHoe_hoe, List.find?_map, htest, findInflight]
  cases h : s.hoe.inflight.find? fun x => x.client == c with
  | none => rfl
  | some e =>
    have he : e.client = c := by simpa using List.find?_some h
    simp [he]

/-- R49: the end of the entry that has become another withdraws the frame of that one. -/
theorem inflightGone_updateInflight {c : Nat} {e : Inflight} {f : Inflight → Inflight} (hf : ∀ e, (f e).client = e.client)
    {s : State} (h : findInflight c s = some e) :
    inflightGone c (updateInflight c f s) =
      (frameWithdrawn (f e) s).withHoe { s.hoe with inflight := s.hoe.inflight.filter fun e => e.client ≠ c } := by
  have hfind : findInflight c (updateInflight c f s) = some (f e) := by rw [findInflight_updateInflight hf, h]; rfl
  have hlist : (updateInflight c f s).hoe.inflight.filter (fun e => e.client ≠ c) =
      s.hoe.inflight.filter fun e => e.client ≠ c := by
    simp only [updateInflight, State.withHoe_hoe, List.filter_map]
    have htest : ((fun x : Inflight => decide (x.client ≠ c)) ∘ fun x => if x.client = c then f x else x) =
        fun x => decide (x.client ≠ c) := by
      funext x
      by_cases hx : x.client = c <;> simp [hx, hf]
    rw [htest]
    refine (List.map_congr_left fun x hx => if_neg ?_).trans (List.map_id _)
    simpa using (List.mem_filter.1 hx).2
  rw [← dropInflight_eq, dropInflight, hfind]
  simp only [hlist, frameWithdrawn]
  split <;> rfl

/-- R49: the end of an entry that has been found. -/
theorem inflightGone_found {c : Nat} {e : Inflight} {s : State} (h : findInflight c s = some e) :
    inflightGone c s =
      (frameWithdrawn e s).withHoe { s.hoe with inflight := s.hoe.inflight.filter fun e => e.client ≠ c } := by
  rw [← dropInflight_eq, dropInflight, h]
  simp only [frameWithdrawn]
  split <;> rfl

/-! ## The second attempt (R57) -/

/-- R57: the second CTX_PULL is accepted once the first frame, if it waits, has been withdrawn. -/
theorem secondAttempt_accepted {e : Inflight} {s : State} (hj : s.cfl.node = .joined)
    (hfirst : e.frame = .queued → Config.secondPullOfferedFirst = true → s.rbc.urgent.length < 8)
    (hroom : (frameWithdrawn e s).rbc.urgent.length < 8) :
    secondAttempt e s = updateInflight e.client
      (fun x => { x with attempt := 2, frame := .queued, tag := (frameWithdrawn e s).rbc.nextTag, timer := some 400 })
      (urgentSent e.peer (.ctxPull e.client (sinceOf e.client s) 2) (frameWithdrawn e s)) := by
  let body := OutFrame.ctxPull e.client (sinceOf e.client s) 2
  obtain ⟨ha, hq⟩ := queueFrame_urgent e.peer body (frameWithdrawn e s) (by rwa [frameWithdrawn_cfl]) rfl rfl hroom
  have hwaits : (if decide (e.frame = .queued) = true then withdrawFrame e.tag s else s) = frameWithdrawn e s := by
    simp [frameWithdrawn]
  have hnot : ¬ (decide (e.frame = .queued) && Config.secondPullOfferedFirst && (queueAnswer e.peer body s).isNone) = true := by
    intro h
    simp only [Bool.and_eq_true, decide_eq_true_eq, Option.isNone_iff_eq_none] at h
    obtain ⟨⟨hqueued, hconfig⟩, hnone⟩ := h
    exact absurd ((queueFrame_urgent e.peer body s hj rfl rfl (hfirst hqueued hconfig)).1.symm.trans hnone) nofun
  rw [secondAttempt, if_neg hnot]
  simp only [hwaits]
  rw [ha]
  exact congrArg (updateInflight e.client _) hq

/-- R57, R48: the pull fails where the second CTX_PULL is refused, before or after the first frame is withdrawn. -/
theorem secondAttempt_fails {e : Inflight} {r : Record} {s : State} (he : findInflight e.client s = some e)
    (hr : OnlyRecord e.client r s) (hfull : s.cfl.node = .joined → 8 ≤ s.rbc.urgent.length)
    (hlast : e.frame ≠ .queued ∨ Config.secondPullOfferedFirst = false →
      s.cfl.node = .joined → 8 ≤ (frameWithdrawn e s).rbc.urgent.length) :
    secondAttempt e s = pullFailed e.client r (offerRefused s) := by
  let body := OutFrame.ctxPull e.client (sinceOf e.client s) 2
  obtain ⟨ha, hq⟩ := queueFrame_urgent_refused e.peer (body := body) rfl rfl hfull
  by_cases hfirst : e.frame = .queued ∧ Config.secondPullOfferedFirst = true
  · have hsecond : secondAttempt e s = pullEndsFresh true e.client (queueFrame e.peer body s) := by
      rw [secondAttempt, if_pos (by simp [hfirst, body, ha])]
    rw [hsecond, hq]
    exact pullEndsFresh_eq (onlyRecord_congr (by rw [offerRefused_ast]) hr)
  · let t := frameWithdrawn e s
    have hnot : e.frame ≠ .queued ∨ Config.secondPullOfferedFirst = false := by
      rw [← Bool.not_eq_true]
      exact not_and_or.1 hfirst
    obtain ⟨hat, hqt⟩ := queueFrame_urgent_refused e.peer (body := body) (s := t) rfl rfl
      (by rw [frameWithdrawn_cfl]; exact hlast hnot)
    have hsecond : secondAttempt e s = pullEndsFresh true e.client
        (updateInflight e.client (fun x => { x with frame := .ended }) (offerRefused t)) := by
      have hwaits : (if decide (e.frame = .queued) = true then withdrawFrame e.tag s else s) = t := by
        simp [t, frameWithdrawn]
      rw [secondAttempt, if_neg (by rcases hnot with h | h <;> simp [h])]
      simp only [hwaits]
      rw [hat]
      exact congrArg (fun x => pullEndsFresh true e.client (updateInflight e.client _ x)) hqt
    have hrecords : (updateInflight e.client (fun x => { x with frame := .ended }) (offerRefused t)).ast = s.ast := by
      rw [updateInflight, State.withHoe_ast, offerRefused_ast, frameWithdrawn_ast]
    rw [hsecond, pullEndsFresh_eq (onlyRecord_congr (congrArg _ hrecords) hr)]
    refine pullFailed_congr ?_
    have hft : findInflight e.client (offerRefused t) = some e := by
      rw [findInflight, offerRefused_hoe, frameWithdrawn_hoe]
      exact he
    have hfs : findInflight e.client (offerRefused s) = some e := by
      rw [findInflight, offerRefused_hoe]
      exact he
    have hended : frameWithdrawn { e with frame := .ended } (offerRefused t) = frameWithdrawn e (offerRefused s) :=
      (if_neg nofun).trans (frameWithdrawn_offerRefused e s).symm
    rw [inflightGone_updateInflight (f := fun x => { x with frame := .ended }) (fun _ => rfl) hft, inflightGone_found hfs,
      hended, offerRefused_hoe, offerRefused_hoe, frameWithdrawn_hoe]

/-! ## The timers (R57, R69) -/

/-- R48: an entry whose response timer has run out. -/
def Inflight.timedOut (e : Inflight) : Inflight := { e with timer := none }

/-- R48: the response timer of a client's entry has run out. -/
def timerOut (client : Nat) (s : State) : State := updateInflight client Inflight.timedOut s

theorem findInflight_timerOut {e : Inflight} {s : State} (he : findInflight e.client s = some e) :
    findInflight e.client (timerOut e.client s) = some e.timedOut := by
  rw [timerOut, findInflight_updateInflight (f := Inflight.timedOut) fun _ => rfl, he]
  rfl

/-- R49: the end of an entry does not depend on its timer. -/
theorem inflightGone_timerOut {e : Inflight} {s : State} (he : findInflight e.client s = some e) :
    inflightGone e.client (timerOut e.client s) = inflightGone e.client s :=
  (inflightGone_updateInflight (f := Inflight.timedOut) (fun _ => rfl) he).trans (inflightGone_found he).symm

theorem inflightGone_offerRefused (c : Nat) (s : State) :
    inflightGone c (offerRefused s) = offerRefused (inflightGone c s) := by
  by_cases hj : s.cfl.node = .joined
  · rw [offerRefused, if_pos hj]
    exact (if_pos hj).symm
  · rw [offerRefused, if_neg hj]
    exact (if_neg hj).symm

/-- R57: the first attempt's timeout fails the pull where the second CTX_PULL is refused. -/
theorem firstTimeout_fails {e : Inflight} {r : Record} {s : State} (he : findInflight e.client s = some e)
    (hr : OnlyRecord e.client r s) (ha : e.attempt = 1) (hfull : s.cfl.node = .joined → 8 ≤ s.rbc.urgent.length)
    (hlast : e.frame ≠ .queued ∨ Config.secondPullOfferedFirst = false →
      s.cfl.node = .joined → 8 ≤ (frameWithdrawn e s).rbc.urgent.length) :
    pullAttemptFails e (timerOut e.client s) = pullFailed e.client r (offerRefused s) := by
  have hrbc : (frameWithdrawn e (timerOut e.client s)).rbc = (frameWithdrawn e s).rbc := by
    unfold frameWithdrawn
    split <;> rfl
  have hout : findInflight e.timedOut.client (timerOut e.client s) = some e.timedOut := findInflight_timerOut (e := e) he
  have hsecond : pullAttemptFails e (timerOut e.client s) = pullFailed e.client r (offerRefused (timerOut e.client s)) :=
    (if_pos ha).trans (secondAttempt_fails (e := e.timedOut) hout
      (onlyRecord_congr rfl hr) hfull fun h hj => hrbc ▸ hlast h hj)
  rw [hsecond]
  exact pullFailed_congr (by rw [inflightGone_offerRefused, inflightGone_offerRefused, inflightGone_timerOut he])

/-- R57: the first attempt's timeout queues the second CTX_PULL where the RBC accepts it. -/
theorem firstTimeout_sends {e : Inflight} {r : Record} {s : State} (he : findInflight e.client s = some e)
    (hn : (s.hoe.inflight.map Inflight.client).Nodup) (hr : OnlyRecord e.client r s) (ha : e.attempt = 1)
    (hj : s.cfl.node = .joined) (hroutine : ∀ g ∈ s.rbc.routine, g.tag ≠ e.tag)
    (hfirst : e.frame = .queued → Config.secondPullOfferedFirst = true → s.rbc.urgent.length < 8) :
    let waiting := if e.frame = .queued then s.rbc.urgent.filter (fun g => g.tag ≠ e.tag) else s.rbc.urgent
    waiting.length < 8 →
    pullAttemptFails e (timerOut e.client s) =
      entryBecomes e.client { e with attempt := 2, frame := .queued, tag := s.rbc.nextTag, timer := some 400 }
        (urgentSent e.peer (.ctxPull e.client r.since 2) (s.withRbc { s.rbc with urgent := waiting })) := by
  intro waiting hroom
  have hout : timerOut e.client s = entryBecomes e.client e.timedOut s :=
    updateInflight_found hn (List.mem_of_find?_eq_some he) _
  let w := timerOut e.client s
  have hwithdrawn : frameWithdrawn e w = w.withRbc { s.rbc with urgent := waiting } :=
    frameWithdrawn_urgent (s := w) hroutine
  have hsince : sinceOf e.client w = r.since := (onlyRecord_congr rfl hr : OnlyRecord e.client r w).sinceOf
  have hsecond : pullAttemptFails e w = _ := (if_pos ha).trans
    (secondAttempt_accepted (s := w) hj hfirst (by rw [hwithdrawn]; exact hroom))
  rw [hsecond, hwithdrawn, hsince]
  simp only [w, hout]
  exact updateInflight_entryBecomes (x := e.timedOut) (w := urgentSent e.peer (.ctxPull e.client r.since 2)
    (s.withRbc { s.rbc with urgent := waiting })) rfl
    fun x => { x with attempt := 2, frame := .queued, tag := s.rbc.nextTag, timer := some 400 }

theorem exec_pullResponseTimeout {client d : Nat} {e : Inflight} {s : State} (he : findInflight client s = some e)
    (ht : e.timer = some d) (hk : e.kind = .pull) :
    exec (.pullResponseTimeout client) s =
      .next (pullAttemptFails e (timerOut client s)) := by
  simp [exec, execPullResponseTimeout, responseExpiry, he, ht, hk]
  rfl

theorem exec_offerResponseTimeout {client d : Nat} {e : Inflight} {s : State} (he : findInflight client s = some e)
    (ht : e.timer = some d) (hk : e.kind = .offer) :
    exec (.offerResponseTimeout client) s =
      .next (offerEnds e.client (timerOut client s)) := by
  simp [exec, execOfferResponseTimeout, responseExpiry, he, ht, hk]
  rfl

/-- Settles O34: the RBC's answers to the second frame, before and after the withdrawal of the first. -/
theorem responseTimeouts : Obligations.ResponseTimeouts := by
  intro client d e r s he ht hr hn hinflight fails
  have hc : e.client = client := by simpa using List.find?_some he
  subst hc
  have honly := onlyRecord_found hr hn
  have hexec := exec_pullResponseTimeout he ht
  refine ⟨fun hk ha hj hroutine => ?_, fun hk ha hm => ?_, fun hk ha => ?_, fun hk => ?_⟩
  · intro waiting accepted refused
    have hwithdrawn : (frameWithdrawn e s).rbc.urgent = waiting := by rw [frameWithdrawn_urgent hroutine]; rfl
    have hsends := firstTimeout_sends he hinflight honly ha hj hroutine
    have hrefused : pullFailed e.client r (offerRefused s) = refused := by rw [offerRefused, if_pos hj]
    have hfails := firstTimeout_fails he honly ha
    refine ⟨fun hroom => ?_, fun hfull hroom => ?_, fun hfull => ?_⟩
    · have hwaiting : waiting.length < 8 := by
        dsimp only [waiting]
        split
        · exact Nat.lt_of_le_of_lt (List.length_filter_le _ _) hroom
        · exact hroom
      exact (hexec hk).trans (congrArg _ (hsends (fun _ _ => hroom) hwaiting))
    · have hqueued : e.frame = .queued := by
        by_contra hno
        simp only [waiting, if_neg hno] at hroom
        omega
      by_cases hconfig : Config.secondPullOfferedFirst = true
      · rw [if_pos hconfig, hexec hk, hfails (fun _ => hfull) fun h => ?_, hrefused]
        simp [hqueued, hconfig] at h
      · rw [if_neg hconfig]
        exact (hexec hk).trans (congrArg _ (hsends (fun _ h => absurd h hconfig) hroom))
    · have hlonger : waiting.length ≤ s.rbc.urgent.length := by
        dsimp only [waiting]
        split
        · exact List.length_filter_le _ _
        · exact Nat.le_refl _
      rw [hexec hk, hfails (fun _ => Nat.le_trans hfull hlonger) fun _ _ => hwithdrawn ▸ hfull, hrefused]
  · have hno : s.cfl.node ≠ .joined := by simp [hm]
    have hsame : offerRefused s = s := if_neg hno
    rw [hexec hk, firstTimeout_fails he honly ha (fun h => absurd h hno) fun _ h => absurd h hno, hsame]
  · have hends : pullAttemptFails e (timerOut e.client s) = pullEndsFresh true e.client (timerOut e.client s) :=
      if_neg (by simp [ha])
    rw [hexec hk, hends, pullEndsFresh_eq (s := timerOut e.client s) (onlyRecord_congr rfl honly)]
    exact congrArg _ (pullFailed_congr (inflightGone_timerOut he))
  · rw [exec_offerResponseTimeout he ht hk]
    have hends := offerEnds_eq (s := timerOut e.client s) hn hr
    rw [hends, inflightGone_timerOut he]

end Sys2Proof.Machine
end

section
/-! Steering at the initiator (R64 to R66, R69). -/
namespace Sys2Proof.Machine

/-! ## The choice of a candidate and its target (R65) -/

/-- R65: what makes an entry of the neighbour table a target of a candidate that hears the stations of a list. -/
theorem considered_offer_iff (l : List Nat) (bound : Int) (e : Neighbour) :
    e.considered l true (some bound) = true ↔ e.station ∈ l ∧ e.declineHold = none ∧ e.pressure ≤ bound := by
  simp [considered_iff]

theorem steerTarget_none {margin : Nat} {r : Record} {s : State}
    (h : ∀ x ∈ s.nbt, ¬ (x.station ∈ r.heard ∧ x.declineHold = none ∧ x.pressure ≤ s.prm.pressure - margin)) :
    steerTarget margin s r = none := by
  rw [steerTarget, leastPressure_eq]
  exact pickBest_none fun x hx => mt (considered_offer_iff _ _ x).1 (h x hx)

/-- R65, R21: the target is the entry with the least advertised pressure, then the lower address. -/
theorem steerTarget_least {margin : Nat} {r : Record} {e : Neighbour} {s : State} (he : e ∈ s.nbt)
    (hfit : e.station ∈ r.heard ∧ e.declineHold = none ∧ e.pressure ≤ s.prm.pressure - margin)
    (hleast : ∀ x ∈ s.nbt, x.station ∈ r.heard ∧ x.declineHold = none ∧ x.pressure ≤ s.prm.pressure - margin →
      e.pressure < x.pressure ∨ (e.pressure = x.pressure ∧ e.station ≤ x.station)) :
    steerTarget margin s r = some e.station := by
  rw [steerTarget, leastPressure_eq]
  exact pickBest_station lighter_total lighter_trans (fun _ _ => lighter_antisymm) he ((considered_offer_iff _ _ e).2 hfit)
    fun x hx hxc => (lighter_iff e x).2 (hleast x hx ((considered_offer_iff _ _ x).1 hxc))

theorem steerCandidates_eq (s : State) : steerCandidates s =
    (s.ast.records.reverse.filter fun x => x.state = .active ∧ x.cls = .guest ∧ x.heard ≠ []).take 4 := by
  rw [steerCandidates]
  congr 1
  refine List.filter_congr fun x _ => Bool.eq_iff_iff.2 ?_
  simp [and_assoc]

theorem steerChoice_none {margin : Nat} {s : State} (h : ∀ x ∈ steerCandidates s, steerTarget margin s x = none) :
    steerChoice margin s = none :=
  List.findSome?_eq_none_iff.2 fun x hx => by rw [h x hx]; rfl

/-- R65, step 3: the first candidate with a target is chosen. -/
theorem steerChoice_first {margin target : Nat} {before after : List Record} {r : Record} {s : State}
    (hlist : steerCandidates s = before ++ r :: after) (hbefore : ∀ x ∈ before, steerTarget margin s x = none)
    (hr : steerTarget margin s r = some target) : steerChoice margin s = some (r, target) := by
  have hnone : before.findSome? (fun r => (steerTarget margin s r).map fun t => (r, t)) = none :=
    List.findSome?_eq_none_iff.2 fun x hx => by rw [hbefore x hx]; rfl
  rw [steerChoice, hlist, List.findSome?_append, hnone]
  simp [hr]

/-! ## The evaluation (R64) -/

theorem steerEvaluate_blocked {s : State} (h : 8 ≤ s.hoe.inflight.length ∨ s.hoe.backlog ≠ []) : steerEvaluate s = s := by
  have hblocked : steerAllowed s = false := by
    rcases h with h | h
    · simp [steerAllowed, inflightLimit, Nat.not_lt.2 h]
    · simp [steerAllowed, h]
  unfold steerEvaluate
  cases s.cfl.config <;> simp [hblocked]

theorem steerEvaluate_none {c : NodeConfig} {s : State} (hc : s.cfl.config = some c) (h : steerChoice c.margin s = none) :
    steerEvaluate s = s := by
  simp only [steerEvaluate, hc, h, ite_self]

theorem steerEvaluate_offers {c : NodeConfig} {r : Record} {target : Nat} {s : State} (hc : s.cfl.config = some c)
    (hm : s.prm.monitor ≠ .normal) (hroom : s.hoe.inflight.length < 8) (hb : s.hoe.backlog = [])
    (h : steerChoice c.margin s = some (r, target)) : steerEvaluate s = startOffer r target s := by
  have hallowed : steerAllowed s = true := by simp [steerAllowed, inflightLimit, hm, hroom, hb]
  simp only [steerEvaluate, hc, hallowed, if_true, h]

/-! ## The offer (R66, R69) -/

/-- R66: the record of the client to whom an offer is made. -/
def offeringRecord (target : Nat) (r : Record) : Record := { r with state := .offering, peer := some target }

/-- R66, 12.1: the STEER_OFFER about a record's client. -/
def offerFrame (r : Record) : OutFrame := .steerOffer r.client (r.binding.map Binding.seat) r.subs.length

/-- R66, R69: an offer is the RBC's answer to its frame, from the state in which the record is OFFERING. -/
theorem startOffer_answered {r : Record} {target : Nat} {s : State} (hr : OnlyRecord r.client r s) :
    let t := recordBecomes r.client (offeringRecord target r) s
    startOffer r target s = (queueAnswer target (offerFrame r) t).elim (offerEnds r.client (queueFrame target (offerFrame r) t))
      fun tag => addInflight (queuedEntry r.client .offer target tag) (queueFrame target (offerFrame r) t) := by
  intro t
  have ht : updateRecord r.client (offeringRecord target) s = t := hr.updateRecord _
  have hstart : startOffer r target s = match queueAnswer target (offerFrame r) t with
      | some tag => addInflight (queuedEntry r.client .offer target tag) (queueFrame target (offerFrame r) t)
      | none => offerEnds r.client (queueFrame target (offerFrame r) t) := by
    rw [← ht]
    rfl
  rw [hstart]
  cases queueAnswer target (offerFrame r) t <;> rfl

/-- R66: an offer whose frame the RBC accepts. -/
theorem startOffer_sent {r : Record} {target : Nat} {s : State} (hr : OnlyRecord r.client r s) (hj : s.cfl.node = .joined)
    (hroom : s.rbc.urgent.length < 8) :
    startOffer r target s = urgentSent target (offerFrame r)
      (addInflight (queuedEntry r.client .offer target s.rbc.nextTag) (recordBecomes r.client (offeringRecord target r) s)) := by
  obtain ⟨ha, hq⟩ := queueFrame_urgent target (offerFrame r) (recordBecomes r.client (offeringRecord target r) s) hj rfl rfl
    hroom
  rw [startOffer_answered hr, ha, hq]
  rfl

/-- R66, R69: an offer whose frame the RBC refuses ends at once, and the record keeps no peer. -/
theorem startOffer_refused {r : Record} {target : Nat} {s : State} (hr : OnlyRecord r.client r s) (hst : r.state = .active)
    (hj : s.cfl.node = .joined) (hfull : 8 ≤ s.rbc.urgent.length) (hfree : ∀ x ∈ s.hoe.inflight, x.client ≠ r.client) :
    startOffer r target s = (recordBecomes r.client { r with peer := none } s).withRbc
      { s.rbc with txDrops := min 65535 (s.rbc.txDrops + 1) } := by
  let t := recordBecomes r.client (offeringRecord target r) s
  let counted := t.withRbc { s.rbc with txDrops := min 65535 (s.rbc.txDrops + 1) }
  obtain ⟨ha, hq⟩ := queueFrame_urgent_full target (offerFrame r) t hj rfl rfl hfull
  have honly : OnlyRecord r.client (offeringRecord target r) counted := onlyRecord_congr rfl (hr.becomes rfl)
  have hends : offerEnds r.client counted = recordBecomes r.client { r with peer := none } counted := by
    rw [offerEnds, dropInflight_eq, inflightGone_absent (s := counted) hfree, honly.updateRecord, ← hst]
    rfl
  have hstart : startOffer r target s = offerEnds r.client counted := by
    rw [startOffer_answered hr, ha, hq]
    rfl
  rw [hstart, hends]
  exact congrArg (fun x : State => x.withRbc { s.rbc with txDrops := min 65535 (s.rbc.txDrops + 1) })
    (recordBecomes_twice (r := offeringRecord target r) s rfl)

/-! ## The advert timer (R11, R64) -/

/-- R10: an advert leaves the URGENT queue as it was. -/
theorem queueAdvert_urgent (s : State) : (queueAdvert s).rbc.urgent = s.rbc.urgent := by
  unfold queueAdvert
  split
  · rfl
  · split
    · exact offer_routine _ _ _ _ rfl
    · rfl

/-- R11: at the advert timer's expiry a JOINED node evaluates steering behind the advert. -/
theorem exec_advertTimerExpiry {c : NodeConfig} {d : Nat} {s : State} (hc : s.cfl.config = some c) (hj : s.cfl.node = .joined)
    (ht : s.prm.advertTimer = some d) :
    exec .advertTimerExpiry s =
      .next (steerEvaluate (advertQueued c (s.withPrm { s.prm with advertTimer := some 2000 }))) := by
  have hq := queueAdvert_joined (s := s.withPrm { s.prm with advertTimer := some 2000 }) hc hj
  simp [exec, execAdvertTimerExpiry, ht, advertMs, hq]

/-- Settles O16: the evaluation behind the advert, by the room at the HOE, the candidates' targets and the URGENT queue. -/
theorem steeringOffersCandidate : Obligations.SteeringOffersCandidate := by
  intro c d s hc hj ht hm hn a candidates fits
  have hq : queueAdvert (s.withPrm { s.prm with advertTimer := some 2000 }) = a := queueAdvert_joined hc hj
  have hac : a.cfl = s.cfl := by simp [← hq]
  have hahoe : a.hoe = s.hoe := by simp [← hq]
  have hanbt : a.nbt = s.nbt := by simp [← hq]
  have haast : a.ast = s.ast := by simp [← hq]
  have haurgent : a.rbc.urgent = s.rbc.urgent := by rw [← hq, queueAdvert_urgent]; rfl
  have hapressure : a.prm.pressure = s.prm.pressure := by rw [← hq, (queueAdvert_prm _).1]; rfl
  have hamonitor : a.prm.monitor ≠ .normal := by rw [← hq, (queueAdvert_prm _).2.1]; exact hm
  have hconfig : a.cfl.config = some c := by rw [hac, hc]
  have hcandidates : steerCandidates a = candidates := by rw [steerCandidates_eq, haast]
  have hexec := exec_advertTimerExpiry hc hj ht
  have hnone : ∀ x, (∀ y ∈ s.nbt, ¬ fits x y) → steerTarget c.margin a x = none := fun x hx =>
    steerTarget_none (by rw [hanbt, hapressure]; exact hx)
  refine ⟨fun hblocked => ?_, fun hno => ?_, fun before after r e hroom hb hlist hbefore he hfit hleast => ?_⟩
  · exact hexec.trans (congrArg _ (steerEvaluate_blocked (hahoe ▸ hblocked)))
  · exact hexec.trans (congrArg _ (steerEvaluate_none hconfig (steerChoice_none fun x hx =>
      hnone x (hno x (hcandidates ▸ hx)))))
  · have htarget : steerTarget c.margin a r = some e.station :=
      steerTarget_least (hanbt ▸ he) (by rw [hapressure]; exact hfit) (by rw [hanbt, hapressure]; exact hleast)
    have hchoice : steerChoice c.margin a = some (r, e.station) :=
      steerChoice_first (hcandidates.trans hlist) (fun x hx => hnone x (hbefore x hx)) htarget
    obtain ⟨hmem, hactive⟩ := steerChoice_active hchoice
    have honly : OnlyRecord r.client r a :=
      onlyRecord_found (findRecord_of_mem (haast ▸ hn) ⟨hmem, rfl⟩) (haast ▸ hn)
    have hoffers : exec .advertTimerExpiry s = .next (startOffer r e.station a) :=
      hexec.trans (congrArg _ (steerEvaluate_offers hconfig hamonitor (hahoe ▸ hroom) (hahoe ▸ hb) hchoice))
    have haj : a.cfl.node = .joined := by rw [hac, hj]
    refine ⟨fun hurgent => ?_, fun hfull hfree => ?_⟩
    · rw [hoffers, startOffer_sent honly haj (haurgent ▸ hurgent), ← hahoe]
      rfl
    · rw [hoffers, startOffer_refused honly hactive haj (haurgent ▸ hfull) (hahoe ▸ hfree)]

end Sys2Proof.Machine
end

section
/-! The radio-side link: records in, REJECT, records out, and the turns of the message lane's sources (R50, R112, R122, R180 to
R184). -/
namespace Sys2Proof.Machine

/-! ## Records in (R180, R181) -/

theorem exec_linkRecordArrival_queued {kind check : Byte} {body : List Byte} {s : State} (hsum : recordSum kind body check = 0)
    (hroom : s.rsl.inbound.length < 32) : exec (.linkRecordArrival kind body check) s =
      .next (s.withRsl { s.rsl with inbound := s.rsl.inbound ++ [{ kind := kind, body := body }] }) :=
  if_pos ⟨hsum, hroom⟩

theorem exec_linkRecordArrival_error {kind check : Byte} {body : List Byte} {s : State}
    (h : recordSum kind body check ≠ 0 ∨ 32 ≤ s.rsl.inbound.length) : exec (.linkRecordArrival kind body check) s =
      .next (s.withRsl { s.rsl with linkErrors := min 65535 (s.rsl.linkErrors + 1) }) :=
  if_neg fun ⟨hsum, hroom⟩ => h.elim (absurd hsum) (Nat.not_le.2 hroom)

/-- R181: the inbound queue's turn. -/
theorem inboundTurn_next {kind : Nat} {body : List Byte} {rest : List LinkRecord} {s : State} (hk : kind < 256)
    (h : RequestNext kind body rest s) : inboundTurn s = true := by
  have hhead := headRequest_next hk h
  rw [headRequest, h.1] at hhead
  by_contra hno
  simp [hno] at hhead

/-- R181: a record of a kind that the node does not take. -/
theorem exec_unknownKindRecord {kind : Byte} {body : List Byte} {rest : List LinkRecord} {s : State}
    (h : RequestNext kind.toNat body rest s) (hk : kind.toNat < 64 ∨ 72 < kind.toNat) :
    exec .unknownKindRecord s = .next (placeOnLane (.reject kind .unknownKind) (requestGone rest s)) := by
  have hhead : s.rsl.inbound = { kind := kind, body := body } :: rest := by
    rw [h.1, BitVec.ofNat_toNat, BitVec.setWidth_eq]
  have hunknown : knownRecordKind kind = false := by
    simp only [knownRecordKind, Bool.and_eq_false_iff, decide_eq_false_iff_not]
    omega
  have hturn := inboundTurn_next kind.isLt h
  simp only [exec, execUnknownKindRecord, hhead, hunknown, hturn, Bool.not_false, Bool.and_true, if_true, reject,
    popRequest_next h, BitVec.ofNat_toNat, BitVec.setWidth_eq]

/-- R181: a NOTICE_CONTROL of a wrong length, at the command of its operation. -/
theorem takeNotice_bad {op : Nat → Bool} {body : List Byte} {rest : List LinkRecord} {s : State}
    (act : BitVec 32 → Ntu → Ntu) (h : RequestNext 71 body rest s) (hop : op (noticeOperation body) = true)
    (hlen : body.length ≠ 5) :
    takeNotice op act s = .next (placeOnLane (.reject (BitVec.ofNat 8 71) .badLength) (requestGone rest s)) := by
  have hread : readNotice body = none := if_neg hlen
  simp only [takeNotice, headRequest_next (by omega) h, hop, if_true, hread, reject, popRequest_next h]

/-- R187 to R189: the command of each operation takes a NOTICE_CONTROL with the operation's byte. -/
theorem exec_noticeCommands {op : Nat} {i : Instr} (h : (op, i) ∈ [(0, Instr.enable), (1, .disable), (2, .ack), (3, .globalOn),
    (4, .globalOff), (5, .clearAll)]) : ∃ act, ∀ s, exec i s = takeNotice (· == op) act s := by
  simp only [List.mem_cons, Prod.mk.injEq, List.not_mem_nil, or_false] at h
  rcases h with ⟨rfl, rfl⟩ | ⟨rfl, rfl⟩ | ⟨rfl, rfl⟩ | ⟨rfl, rfl⟩ | ⟨rfl, rfl⟩ | ⟨rfl, rfl⟩
  · exact ⟨Ntu.enable, fun _ => rfl⟩
  · exact ⟨Ntu.disable, fun _ => rfl⟩
  · exact ⟨Ntu.ack, fun _ => rfl⟩
  · exact ⟨fun _ n => { n with globalEnable := true }, fun _ => rfl⟩
  · exact ⟨fun _ n => { n with globalEnable := false }, fun _ => rfl⟩
  · exact ⟨fun _ n => n.clearAll, fun _ => rfl⟩

/-- R202: the operation byte of a NOTICE_CONTROL whose body has one. -/
theorem noticeOperation_of_ne_nil {body : List Byte} (h : body ≠ []) : noticeOperation body = fieldAt body 0 1 :=
  if_neg (mt List.eq_nil_of_length_eq_zero h)

theorem exec_noticeCommand_short {op : Nat} {i : Instr} {body : List Byte} {rest : List LinkRecord} {s : State}
    (hi : (op, i) ∈ [(0, Instr.enable), (1, .disable), (2, .ack), (3, .globalOn), (4, .globalOff), (5, .clearAll)])
    (hlen : body.length ≠ 5) (hne : body ≠ []) (hop : fieldAt body 0 1 = op) (h : RequestNext 71 body rest s) :
    exec i s = .next (placeOnLane (.reject (BitVec.ofNat 8 71) .badLength) (requestGone rest s)) := by
  obtain ⟨act, hexec⟩ := exec_noticeCommands hi
  have hbyte : noticeOperation body = op := (noticeOperation_of_ne_nil hne).trans hop
  exact (hexec s).trans (takeNotice_bad act h (by simp [hbyte]) hlen)

/-- R202: an empty NOTICE_CONTROL belongs to no operation either (log entry 23). -/
theorem exec_noticeBadOperation_short {body : List Byte} {rest : List LinkRecord} {s : State} (hlen : body.length ≠ 5)
    (hop : body = [] ∨ 5 < fieldAt body 0 1) (h : RequestNext 71 body rest s) :
    exec .noticeControlBadOperation s =
      .next (placeOnLane (.reject (BitVec.ofNat 8 71) .badLength) (requestGone rest s)) := by
  have hbyte : 5 < noticeOperation body := by
    unfold noticeOperation
    split
    · omega
    · next hne => exact hop.resolve_left fun hnil => hne (congrArg List.length hnil)
  exact takeNotice_bad (op := fun op => decide (5 < op)) (fun _ n => n) h (decide_eq_true hbyte) hlen

/-! ## Records out (R183) -/

/-- R183: the head of the slot lane, or else of the message lane, is being sent. -/
def Rsl.headSent (r : Rsl) : Rsl :=
  match r.slotLane, r.lane with
  | h :: _, _ => { r with sending := some .slot, serialOut := h.bytes }
  | [], h :: _ => { r with sending := some .message, serialOut := h.bytes }
  | [], [] => r

/-- R183: the line begins to send only while it is idle and the baseband is ready. -/
theorem startSending_eq (r : Rsl) :
    r.startSending = if r.basebandReady = true ∧ r.sending = none then r.headSent else r := by
  unfold Rsl.startSending
  by_cases h : r.basebandReady = true ∧ r.sending = none
  · rw [if_pos h, if_pos (by simp [h])]
    rfl
  · rw [if_neg h, if_neg (by simpa using h)]

theorem placeOnLane_eq (x : OutRecord) (s : State) :
    placeOnLane x s = s.withRsl (let y : Rsl := { s.rsl with lane := s.rsl.lane ++ [x] }
      if s.rsl.basebandReady = true ∧ s.rsl.sending = none then y.headSent else y) :=
  congrArg s.withRsl (startSending_eq _)

theorem placeOnSlotLane_eq (x : SlotOut) (s : State) :
    placeOnSlotLane x s = s.withRsl (let y : Rsl := { s.rsl with slotLane := s.rsl.slotLane ++ [x] }
      if s.rsl.basebandReady = true ∧ s.rsl.sending = none then y.headSent else y) :=
  congrArg s.withRsl (startSending_eq _)

/-- R183: an idle line begins to send where the baseband is ready. -/
theorem startSending_idle {r : Rsl} (h : r.sending = none) : r.startSending = if r.basebandReady then r.headSent else r := by
  rw [startSending_eq]
  simp [h]

theorem exec_recordTaken_message {s : State} (h : s.rsl.sending = some .message) : exec .recordTaken s = .next (s.withRsl
    (let x : Rsl := { s.rsl with lane := s.rsl.lane.tail, sending := none, serialOut := [] }
      if s.rsl.basebandReady then x.headSent else x)) := by
  simp only [exec, execRecordTaken, h]
  exact congrArg (fun x => Host.Outcome.next (s.withRsl x))
    (startSending_idle (r := { s.rsl with lane := s.rsl.lane.tail, sending := none, serialOut := [] }) rfl)

theorem exec_recordTaken_slot {s : State} (h : s.rsl.sending = some .slot) : exec .recordTaken s = .next (s.withRsl
    (let x : Rsl := { s.rsl with slotLane := s.rsl.slotLane.tail, sending := none, serialOut := [] }
      if s.rsl.basebandReady then x.headSent else x)) := by
  simp only [exec, execRecordTaken, h]
  exact congrArg (fun x => Host.Outcome.next (s.withRsl x))
    (startSending_idle (r := { s.rsl with slotLane := s.rsl.slotLane.tail, sending := none, serialOut := [] }) rfl)

theorem exec_basebandReady (ready : Bool) (s : State) : exec (.basebandReady ready) s = .next (s.withRsl
    (let x : Rsl := { s.rsl with basebandReady := ready }
      if ready = true ∧ s.rsl.sending = none then x.headSent else x)) :=
  congrArg (fun x => Host.Outcome.next (s.withRsl x)) (startSending_eq { s.rsl with basebandReady := ready })

/-! ## The places and the turns (R184) -/

theorem laneRoom_pos (s : State) : 0 < laneRoom s ↔ s.rsl.lane.length < 64 := by
  simp [laneRoom, laneLimit]

theorem hoeTurn_iff (s : State) : hoeTurn s = true ↔ s.rsl.lane.length < 64 := by
  rw [hoeTurn, decide_eq_true_iff, laneRoom_pos]

theorem ckuTurn_iff (s : State) : ckuTurn s = true ↔ s.rsl.lane.length < 64 ∧ s.hoe.backlog = [] := by
  rw [ckuTurn, Bool.and_eq_true, hoeTurn_iff, List.isEmpty_iff]

theorem astTurn_iff (s : State) : astTurn s = true ↔
    (s.rsl.lane.length < 64 ∧ s.hoe.backlog = []) ∧ s.cku.backlog = [] := by
  rw [astTurn, Bool.and_eq_true, ckuTurn_iff, List.isEmpty_iff]

theorem endReportTurn_iff (s : State) : endReportTurn s = true ↔
    ((s.rsl.lane.length < 64 ∧ s.hoe.backlog = []) ∧ s.cku.backlog = []) ∧ s.rsl.astBacklog = [] := by
  rw [endReportTurn, Bool.and_eq_true, astTurn_iff, List.isEmpty_iff]

theorem exec_hoeBacklogMove {x : OutRecord} {l : List OutRecord} {s : State} (h : s.hoe.backlog = x :: l) :
    exec .hoeBacklogMove s =
      .next (if s.rsl.lane.length < 64 then placeOnLane x (s.withHoe { s.hoe with backlog := l }) else s) := by
  simp only [exec, execHoeBacklogMove, h, hoeTurn_iff]
  split <;> rfl

/-- R50, R112, R184: each block's record goes to the lane where a place is free and no source up to its own waits. -/
theorem places_eq (x : OutRecord) (s : State) :
    hoePlace x s = (if s.rsl.lane.length < 64 ∧ s.hoe.backlog = [] then placeOnLane x s
      else s.withHoe { s.hoe with backlog := s.hoe.backlog ++ [x] }) ∧
    ckuPlace x s = (if (s.rsl.lane.length < 64 ∧ s.hoe.backlog = []) ∧ s.cku.backlog = [] then placeOnLane x s
      else s.withCku { s.cku with backlog := s.cku.backlog ++ [x] }) ∧
    astPlace x s = (if (s.rsl.lane.length < 64 ∧ s.hoe.backlog = []) ∧ s.cku.backlog = [] ∧ s.rsl.astBacklog = [] then
      placeOnLane x s else s.withRsl { s.rsl with astBacklog := s.rsl.astBacklog ++ [x] }) := by
  simp only [hoePlace, ckuPlace, astPlace, laneRoom_pos, and_assoc, and_self]

/-- Settles O59: the records in and their REJECTs, the lanes, the places, and the turn of each source. -/
theorem linkMovesRecords : Obligations.LinkMovesRecords := by
  intro kind body check rest s counted refused next
  have hcounted : counted ↔ recordSum kind body check = 0 := Iff.rfl
  have hrequest : ∀ {α : Type} (k : Nat) (i : Instr) (read : List Byte → Option α) (act : α → State → State), k < 256 →
      exec i s = takeRequest k read act s → read body = none → refused k i := fun k i read act hk hexec hr hn =>
    hexec.trans (takeRequest_bad read act hk hn hr)
  refine ⟨fun hc hroom => exec_linkRecordArrival_queued (hcounted.1 hc) hroom,
    fun h => exec_linkRecordArrival_error (h.imp_left (mt hcounted.2)),
    hrequest 64 .associate readAssociate (associate false) (by omega) rfl,
    hrequest 65 .heard readHeard (fun a => takeHeard a.1 a.2) (by omega) rfl,
    fun hl => hrequest 66 .depart readDepart takeDepart (by omega) rfl (if_neg hl),
    fun hl => hrequest 67 .presentTicket readPresent present (by omega) rfl (if_neg hl),
    fun hl => ⟨hrequest 68 .subscribe readSubscribe (fun a => subscribe a.1 a.2) (by omega) rfl (if_neg hl),
      hrequest 69 .unsubscribe readSubscribe (fun a => unsubscribe a.1 a.2) (by omega) rfl (if_neg hl)⟩,
    fun hl => ⟨hrequest 70 .replayReset readNothing (fun _ => replayReset) (by omega) rfl (if_neg hl),
      hrequest 72 .statusQuery readNothing (fun _ s => placeOnLane (.statusReply (statusOf s)) s) (by omega) rfl (if_neg hl)⟩,
    exec_unknownKindRecord,
    fun hl => ⟨exec_noticeBadOperation_short hl, fun hne _ _ hi hop => exec_noticeCommand_short hi hl hne hop⟩,
    ⟨fun x => ?_, fun x => ?_⟩, fun x => ?_,
    ⟨exec_recordTaken_message, exec_recordTaken_slot, exec_basebandReady false s, ?_⟩,
    fun x l h => ⟨fun hroom => ?_, fun hfull => ?_⟩, fun x l h hroom h1 => ?_, fun x l h hroom h1 h2 => ?_,
    fun x l h hroom h1 h2 h3 => ?_⟩
  · rw [placeOnLane_eq]
    exact ⟨fun hidle => congrArg _ (if_pos hidle), fun hbusy => congrArg _ (if_neg hbusy)⟩
  · rw [placeOnSlotLane_eq]
    exact ⟨fun hidle => congrArg _ (if_pos hidle), fun hbusy => congrArg _ (if_neg hbusy)⟩
  · obtain ⟨hhoe, hcku, hast⟩ := places_eq x s
    exact ⟨fun h => hhoe.trans (if_pos h), fun h => hhoe.trans (if_neg h), fun h => hcku.trans (if_pos h),
      fun h => hcku.trans (if_neg h), fun h => hast.trans (if_pos h), fun h => hast.trans (if_neg h)⟩
  · rw [exec_basebandReady]
    simp only [true_and]
    rfl
  · rw [exec_hoeBacklogMove h, if_pos hroom]
  · rw [exec_hoeBacklogMove h, if_neg (Nat.not_lt.2 hfull)]
  · simp only [exec, execCkuBacklogMove, h, (ckuTurn_iff s).2 ⟨hroom, h1⟩, if_true]
  · simp only [exec, execAstBacklogMove, h, (astTurn_iff s).2 ⟨⟨hroom, h1⟩, h2⟩, if_true]
  · simp only [exec, execStreamEnded, h, (endReportTurn_iff s).2 ⟨⟨⟨hroom, h1⟩, h2⟩, h3⟩, if_true]

end Sys2Proof.Machine
end

section
/-! What no operation but the moves of the node state and the freezing commands touches: the Configuration Loader and the freeze map
(R78, R192). -/
namespace Sys2Proof.Machine

/-- The parts of the state that the rules of every command speak of: the Configuration Loader and the freeze map. -/
def State.rules (s : State) : Cfl × BitVec 16 := (s.cfl, s.ens.freeze)

theorem rules_eq_iff {s t : State} : t.rules = s.rules ↔ t.cfl = s.cfl ∧ t.ens.freeze = s.ens.freeze := by
  simp [State.rules]

theorem rules_of_blocks {s t : State} (hc : t.cfl = s.cfl) (he : t.ens = s.ens) : t.rules = s.rules :=
  rules_eq_iff.2 ⟨hc, congrArg Ens.freeze he⟩

/-! ## The shared operations -/

@[simp] theorem withPrm_rules (s : State) (v : Prm) : (s.withPrm v).rules = s.rules := rfl
@[simp] theorem withNbt_rules (s : State) (v : List Neighbour) : (s.withNbt v).rules = s.rules := rfl
@[simp] theorem withHoe_rules (s : State) (v : Hoe) : (s.withHoe v).rules = s.rules := rfl
@[simp] theorem withCku_rules (s : State) (v : Cku) : (s.withCku v).rules = s.rules := rfl
@[simp] theorem withRpc_rules (s : State) (v : Rpc) : (s.withRpc v).rules = s.rules := rfl
@[simp] theorem withSls_rules (s : State) (v : Sls) : (s.withSls v).rules = s.rules := rfl
@[simp] theorem withSck_rules (s : State) (v : Sck) : (s.withSck v).rules = s.rules := rfl
@[simp] theorem withRbc_rules (s : State) (v : Rbc) : (s.withRbc v).rules = s.rules := rfl
@[simp] theorem withRsl_rules (s : State) (v : Rsl) : (s.withRsl v).rules = s.rules := rfl
@[simp] theorem withFree_rules (s : State) (v : Nat) : (s.withFree v).rules = s.rules := rfl

@[simp] theorem raise_rules (k : NoticeKind) (s : State) : (raise k s).rules = s.rules := rfl
@[simp] theorem queueFrame_rules (d : Nat) (b : OutFrame) (s : State) : (queueFrame d b s).rules = s.rules := rfl
@[simp] theorem withdrawFrame_rules (t : Nat) (s : State) : (withdrawFrame t s).rules = s.rules := rfl
@[simp] theorem placeOnLane_rules (x : OutRecord) (s : State) : (placeOnLane x s).rules = s.rules := rfl
@[simp] theorem placeOnSlotLane_rules (x : SlotOut) (s : State) : (placeOnSlotLane x s).rules = s.rules := rfl
@[simp] theorem popRequest_rules (s : State) : (popRequest s).rules = s.rules := rfl
@[simp] theorem updateRecord_rules (c : Nat) (f : Record → Record) (s : State) : (updateRecord c f s).rules = s.rules := rfl
@[simp] theorem updateInflight_rules (c : Nat) (f : Inflight → Inflight) (s : State) :
    (updateInflight c f s).rules = s.rules := rfl
@[simp] theorem addInflight_rules (e : Inflight) (s : State) : (addInflight e s).rules = s.rules := rfl
@[simp] theorem updateStream_rules (i : Nat) (f : Stream → Stream) (s : State) : (updateStream i f s).rules = s.rules := rfl
@[simp] theorem updateSegment_rules (i q : Nat) (f : SegmentRecord → SegmentRecord) (s : State) :
    (updateSegment i q f s).rules = s.rules := rfl
@[simp] theorem gainSubscriber_rules (i : Nat) (s : State) : (gainSubscriber i s).rules = s.rules := rfl
@[simp] theorem loseSubscriber_rules (i : Nat) (s : State) : (loseSubscriber i s).rules = s.rules := rfl
@[simp] theorem countSteerFailure_rules (s : State) : (countSteerFailure s).rules = s.rules := rfl
@[simp] theorem markFrame_rules (t : Nat) (v : FrameStatus) (s : State) : (markFrame t v s).rules = s.rules := rfl
@[simp] theorem writeSeat_rules (i : Nat) (e : SeatEntry) (s : State) : (writeSeat i e s).rules = s.rules := rfl
@[simp] theorem removeStream_rules (i : Nat) (s : State) : (removeStream i s).rules = s.rules := rfl
@[simp] theorem setDeclineHold_rules (station : Nat) (s : State) : (setDeclineHold station s).rules = s.rules := rfl
@[simp] theorem activateRecord_rules (c : Nat) (s : State) : (activateRecord c s).rules = s.rules := rfl
@[simp] theorem restartIdle_rules (c : Nat) (s : State) : (restartIdle c s).rules = s.rules := rfl

@[simp] theorem hoePlace_rules (x : OutRecord) (s : State) : (hoePlace x s).rules = s.rules :=
  rules_of_blocks (hoePlace_cfl x s) (hoePlace_ens x s)
@[simp] theorem ckuPlace_rules (x : OutRecord) (s : State) : (ckuPlace x s).rules = s.rules :=
  rules_of_blocks (ckuPlace_cfl x s) (ckuPlace_ens x s)
@[simp] theorem astPlace_rules (x : OutRecord) (s : State) : (astPlace x s).rules = s.rules :=
  rules_of_blocks (astPlace_cfl x s) (astPlace_ens x s)
@[simp] theorem queueAdvert_rules (s : State) : (queueAdvert s).rules = s.rules :=
  rules_of_blocks (queueAdvert_cfl s) (queueAdvert_ens s)
@[simp] theorem recompute_rules (s : State) : (recompute s).rules = s.rules :=
  rules_of_blocks (recompute_cfl s) (recompute_ens s)
@[simp] theorem dropInflight_rules (c : Nat) (s : State) : (dropInflight c s).rules = s.rules :=
  rules_of_blocks (dropInflight_cfl c s) (dropInflight_ens c s)
@[simp] theorem dropClaim_rules (c : Nat) (s : State) : (dropClaim c s).rules = s.rules :=
  rules_of_blocks (dropClaim_cfl c s) (dropClaim_ens c s)
@[simp] theorem removeRecord_rules (c : Nat) (s : State) : (removeRecord c s).rules = s.rules :=
  rules_of_blocks (removeRecord_cfl c s) (removeRecord_ens c s)
@[simp] theorem deriveClass_rules (c : Nat) (s : State) : (deriveClass c s).rules = s.rules :=
  rules_of_blocks (deriveClass_frame c s).1 (deriveClass_frame c s).2.2
@[simp] theorem demote_rules (c q : Nat) (s : State) : (demote c q s).rules = s.rules :=
  rules_of_blocks (demote_frame c q s).1 (demote_frame c q s).2
@[simp] theorem replaceSeat_rules (c : NodeConfig) (i : Nat) (e : SeatEntry) (s : State) :
    (replaceSeat c i e s).rules = s.rules := by
  obtain ⟨hc, he⟩ := replaceSeat_frame c i e s
  exact rules_eq_iff.2 ⟨hc, by rw [he]; rfl⟩

/-! ## The association table (R26 to R46) -/

@[simp] theorem addRecord_rules (r : Record) (s : State) : (addRecord r s).rules = s.rules := recompute_rules _

@[simp] theorem claimantFallback_rules (c : Nat) (s : State) : (claimantFallback c s).rules = s.rules := by
  unfold claimantFallback
  split
  · rfl
  · split_ifs <;> simp

@[simp] theorem localAdmitted_rules (c : Nat) (b : Binding) (s : State) : (localAdmitted c b s).rules = s.rules := by
  unfold localAdmitted
  split
  · rfl
  · dsimp only
    split_ifs <;> simp

@[simp] theorem subscribe_rules (c stream : Nat) (s : State) : (subscribe c stream s).rules = s.rules := by
  unfold subscribe
  dsimp only
  split_ifs <;> simp

@[simp] theorem unsubscribe_rules (c stream : Nat) (s : State) : (unsubscribe c stream s).rules = s.rules := by
  unfold unsubscribe
  dsimp only
  split_ifs <;> simp

@[simp] theorem installStreams_rules (c : Nat) (l : List Nat) (s : State) : (installStreams c l s).rules = s.rules := by
  have hgained : ∀ (k : List Nat) (t : State), (k.foldl (fun s id => gainSubscriber id s) t).rules = t.rules := by
    intro k
    induction k with
    | nil => exact fun _ => rfl
    | cons a k ih => exact fun t => ih (gainSubscriber a t)
  exact hgained _ _

@[simp] theorem takeDepart_rules (c : Nat) (s : State) : (takeDepart c s).rules = s.rules := by
  unfold takeDepart
  split
  · rfl
  · split_ifs <;> simp

/-! ## The handoffs (R47 to R75) -/

@[simp] theorem pullEndsFresh_rules (lost : Bool) (c : Nat) (s : State) : (pullEndsFresh lost c s).rules = s.rules := by
  unfold pullEndsFresh
  dsimp only
  split_ifs <;> simp

@[simp] theorem secondAttempt_rules (e : Inflight) (s : State) : (secondAttempt e s).rules = s.rules := by
  have hwithdrawn : (if e.frame = .queued then withdrawFrame e.tag s else s).rules = s.rules := by split_ifs <;> rfl
  unfold secondAttempt
  dsimp only
  split
  · simp
  · split <;> simp [hwithdrawn]

@[simp] theorem pullAttemptFails_rules (e : Inflight) (s : State) : (pullAttemptFails e s).rules = s.rules := by
  unfold pullAttemptFails
  split_ifs <;> simp

@[simp] theorem startPull_rules (c peer : Nat) (s : State) : (startPull c peer s).rules = s.rules := by
  unfold startPull
  dsimp only
  split <;> simp

@[simp] theorem takeGrant_rules (source : Nat) (g : GrantPayload) (s : State) : (takeGrant source g s).rules = s.rules := by
  unfold takeGrant
  split
  · simp
  · rfl

@[simp] theorem takeNone_rules (source c : Nat) (s : State) : (takeNone source c s).rules = s.rules := by
  unfold takeNone
  split
  · simp
  · rfl

@[simp] theorem takeHeld_rules (source c : Nat) (s : State) : (takeHeld source c s).rules = s.rules := by
  unfold takeHeld
  split
  · simp
  · rfl

@[simp] theorem removeGranted_rules (lost : Bool) (c : Nat) (s : State) : (removeGranted lost c s).rules = s.rules := by
  unfold removeGranted
  dsimp only
  split_ifs <;> simp

@[simp] theorem grantContext_rules (source since : Nat) (r : Record) (s : State) :
    (grantContext source since r s).rules = s.rules := by
  have hreleased : (grantReleased source since r s).rules = s.rules := by
    unfold grantReleased
    split_ifs <;> simp
  rw [grantContext_eq]
  dsimp only
  split_ifs <;> simp [hreleased]

@[simp] theorem takePull_rules (source c since : Nat) (s : State) : (takePull source c since s).rules = s.rules := by
  unfold takePull
  split
  · split
    · rfl
    · split
      · rfl
      · simp
      · split_ifs <;> simp [abandonPull]
      all_goals
        split_ifs <;> simp
  · rfl

@[simp] theorem offerEnds_rules (c : Nat) (s : State) : (offerEnds c s).rules = s.rules := by simp [offerEnds]

@[simp] theorem startOffer_rules (r : Record) (target : Nat) (s : State) : (startOffer r target s).rules = s.rules := by
  unfold startOffer
  dsimp only
  split <;> simp

@[simp] theorem steerEvaluate_rules (s : State) : (steerEvaluate s).rules = s.rules := by
  unfold steerEvaluate
  split
  · rfl
  · split
    · split <;> simp
    · rfl

@[simp] theorem takeAccept_rules (source c : Nat) (s : State) : (takeAccept source c s).rules = s.rules := by
  unfold takeAccept
  split
  · simp
  · rfl

@[simp] theorem takeDecline_rules (source c : Nat) (s : State) : (takeDecline source c s).rules = s.rules := by
  unfold takeDecline
  split
  · dsimp only
    split_ifs <;> simp
  · rfl

@[simp] theorem takeOffer_rules (source c : Nat) (seat : Option Nat) (s : State) : (takeOffer source c seat s).rules = s.rules := by
  unfold takeOffer
  split
  · rfl
  · split
    · split <;> simp
    · rfl

theorem responseExpiry_rules {kind : InflightKind} {c : Nat} {act : Inflight → State → State} {s : State}
    (hact : ∀ e u, (act e u).rules = u.rules) : (responseExpiry kind c act s).rules = s.rules := by
  unfold responseExpiry
  split
  · rfl
  · split_ifs <;> simp [hact]

/-! ## Admission (R27 to R33, R51) -/

@[simp] theorem answerAssociate_rules (c : Nat) (code : AssocCode) (cls : Option ClientClass) (s : State) :
    (answerAssociate c code cls s).rules = s.rules := astPlace_rules _ _

@[simp] theorem answerAccepted_rules (c : Nat) (code : AssocCode) (s : State) :
    (answerAccepted c code s).rules = s.rules := astPlace_rules _ _

@[simp] theorem waitOrRefuse_rules (q : AssocRequest) (s : State) : (waitOrRefuse q s).rules = s.rules := by
  unfold waitOrRefuse
  split_ifs <;> simp

@[simp] theorem associateExpected_rules (readmit : Bool) (r : Record) (q : AssocRequest) (s : State) :
    (associateExpected readmit r q s).rules = s.rules := by
  unfold associateExpected
  dsimp only
  split_ifs <;> simp

@[simp] theorem associateReleasing_rules (q : AssocRequest) (s : State) : (associateReleasing q s).rules = s.rules := by
  unfold associateReleasing
  split <;> simp

@[simp] theorem associateKnown_rules (readmit : Bool) (r : Record) (q : AssocRequest) (s : State) :
    (associateKnown readmit r q s).rules = s.rules := by
  unfold associateKnown
  split <;> simp

@[simp] theorem associateNew_rules (readmit : Bool) (q : AssocRequest) (s : State) :
    (associateNew readmit q s).rules = s.rules := by
  unfold associateNew
  split
  · simp [refuseFull]
  · split
    · simp
    · split_ifs <;> simp

@[simp] theorem associate_rules (readmit : Bool) (q : AssocRequest) (s : State) : (associate readmit q s).rules = s.rules := by
  unfold associate
  split
  · split <;> simp
  · split
    · split_ifs <;> simp
    · simp
  · simp
  · simp
  · rfl

/-! ## Check-in (R95 to R114) -/

@[simp] theorem updateSeat_rules (q : Nat) (f : SeatEntry → SeatEntry) (s : State) : (updateSeat q f s).rules = s.rules := by
  unfold updateSeat
  split <;> rfl

@[simp] theorem applyDecision_rules (c q : Nat) (d : Decision) (s : State) : (applyDecision c q d s).rules = s.rules := by
  unfold applyDecision
  split <;> simp

@[simp] theorem placeLocalResult_rules (p : Presentation) (code : CheckinCode) (n : Nat) (s : State) :
    (placeLocalResult p code n s).rules = s.rules := by
  unfold placeLocalResult stationGiven
  split_ifs <;> simp [nextFree]

@[simp] theorem placeOwnerResult_rules (c ticket seat : Nat) (code : CheckinCode) (owner n : Nat) (s : State) :
    (placeOwnerResult c ticket seat code owner n s).rules = s.rules := ckuPlace_rules _ _

@[simp] theorem refuseLocally_rules (p : Presentation) (code : CheckinCode) (n : Nat) (s : State) :
    (refuseLocally p code n s).rules = s.rules := by simp [refuseLocally]

@[simp] theorem presentLocally_rules (p : Presentation) (d : Decision) (s : State) :
    (presentLocally p d s).rules = s.rules := by
  unfold presentLocally
  dsimp only
  split <;> simp

@[simp] theorem startClaim_rules (p : Presentation) (owner : Nat) (s : State) : (startClaim p owner s).rules = s.rules := by
  unfold startClaim
  split
  · simp
  · dsimp only
    split <;> simp

@[simp] theorem presentActive_rules (c : NodeConfig) (r : Record) (p : Presentation) (s : State) :
    (presentActive c r p s).rules = s.rules := by
  unfold presentActive
  split
  · simp
  · split
    · simp
    · split
      · simp
      · split
        · simp
        · split
          · simp
          · split <;> simp

@[simp] theorem present_rules (p : Presentation) (s : State) : (present p s).rules = s.rules := by
  unfold present
  dsimp only
  split
  · split_ifs <;> simp
  · simp

@[simp] theorem relayResult_rules (k : Claim) (code : CheckinCode) (s : State) : (relayResult k code s).rules = s.rules := by
  unfold relayResult
  dsimp only
  split_ifs <;> simp

@[simp] theorem endClaim_rules (k : Claim) (code : CheckinCode) (n : Nat) (s : State) :
    (endClaim k code n s).rules = s.rules := by
  unfold endClaim
  dsimp only
  split
  · simp
  · split_ifs <;> simp

@[simp] theorem takeVerdict_rules (source : Nat) (v : VerdictPayload) (s : State) :
    (takeVerdict source v s).rules = s.rules := by
  unfold takeVerdict
  split
  · split <;> simp
  · rfl

@[simp] theorem takeClaim_rules (source dest : Nat) (c : ClaimPayload) (s : State) :
    (takeClaim source dest c s).rules = s.rules := by
  unfold takeClaim
  split
  · split <;> simp
  · rfl

/-! ## Seat entitlements (R79 to R88) -/

@[simp] theorem countStale_rules (s : State) : (countStale s).rules = s.rules := rfl
@[simp] theorem refuseFrozen_rules (s : State) : (refuseFrozen s).rules = s.rules := rfl

theorem placeTicket_rules {c : NodeConfig} {index number : Nat} {apply : State → State} {s : State}
    (happly : ∀ x, (apply x).rules = x.rules) : (placeTicket c index number apply s).rules = s.rules := by
  unfold placeTicket
  split
  · exact happly s
  · split_ifs <;> simp [happly]

@[simp] theorem applyIssue_rules (c : NodeConfig) (index : Nat) (e : SeatEntry) (a : Entitlement) (s : State) :
    (applyIssue c index e a s).rules = s.rules := by
  unfold applyIssue
  split <;> exact placeTicket_rules fun x => by simp

@[simp] theorem applyVoid_rules (c : NodeConfig) (index : Nat) (e : SeatEntry) (a : Entitlement) (s : State) :
    (applyVoid c index e a s).rules = s.rules := by
  unfold applyVoid
  split
  · exact placeTicket_rules fun x => by simp
  all_goals simp

@[simp] theorem applyClear_rules (c : NodeConfig) (index : Nat) (e : SeatEntry) (a : Entitlement) (s : State) :
    (applyClear c index e a s).rules = s.rules := by
  unfold applyClear
  split
  · simp
  all_goals rfl

@[simp] theorem applyFill_rules (index : Nat) (e : SeatEntry) (a : Entitlement) (s : State) :
    (applyFill index e a s).rules = s.rules := by
  unfold applyFill
  split
  · split_ifs <;> simp
  all_goals rfl

@[simp] theorem decideEntitlement_rules (c : NodeConfig) (index : Nat) (e : SeatEntry) (a : Entitlement) (s : State) :
    (decideEntitlement c index e a s).rules = s.rules := by
  unfold decideEntitlement
  split_ifs
  · simp
  · rfl
  · rfl
  · unfold applyAction
    split <;> simp

@[simp] theorem takeEntitlement_rules (a : Entitlement) (s : State) : (takeEntitlement a s).rules = s.rules := by
  unfold takeEntitlement
  split
  · rfl
  · split
    · split
      · exact decideEntitlement_rules _ _ _ _ _
      · rfl
    · rfl

/-! ## Replay (R116 to R151) -/

@[simp] theorem finishDraining_rules (id : Nat) (s : State) : (finishDraining id s).rules = s.rules := by
  unfold finishDraining
  split
  · rfl
  · split_ifs <;> simp

@[simp] theorem takeAnnounce_rules (a : Announce) (s : State) : (takeAnnounce a s).rules = s.rules := by
  unfold takeAnnounce withdrawStream addStream
  repeat' split
  all_goals rfl

@[simp] theorem takeSegment_rules (c : Chunk) (s : State) : (takeSegment c s).rules = s.rules := by
  unfold takeSegment takeChunkWithoutRecord createSegment
  repeat' split
  all_goals rfl

@[simp] theorem endSegment_rules (id q : Nat) (s : State) : (endSegment id q s).rules = s.rules := by
  unfold endSegment
  dsimp only
  split
  · split_ifs <;> simp
  · simp

@[simp] theorem emitChunk_rules (p : Place) (r : SegmentRecord) (i : Nat) (s : State) : (emitChunk p r i s).rules = s.rules := by
  unfold emitChunk
  dsimp only
  split_ifs <;> simp

@[simp] theorem underrun_rules (p : Place) (st : Stream) (s : State) : (underrun p st s).rules = s.rules := by
  unfold underrun
  dsimp only
  split_ifs <;> simp

@[simp] theorem spendBehind_rules (id : Nat) (last : Option Nat) (s : State) : (spendBehind id last s).rules = s.rules := by
  unfold spendBehind
  split <;> rfl

@[simp] theorem lagCut_rules (id : Nat) (last : Option Nat) (s : State) : (lagCut id last s).rules = s.rules := by
  unfold lagCut
  dsimp only
  split_ifs <;> rfl

@[simp] theorem emitNext_rules (p : Place) (st : Stream) (s : State) : (emitNext p st s).rules = s.rules := by
  unfold emitNext
  dsimp only
  split <;> simp

@[simp] theorem handleSlot_rules (s : State) : (handleSlot s).rules = s.rules := by
  unfold handleSlot
  split
  · rfl
  · split
    · rfl
    · split_ifs
      · rfl
      · unfold emitSlot
        split
        · simp
        · split <;> simp

@[simp] theorem gapDrop_rules (s : State) : (gapDrop s).rules = s.rules := by
  unfold gapDrop
  rw [raiseGaps_eq]
  rfl

@[simp] theorem startSlot_rules (slot : Nat) (s : State) : (startSlot slot s).rules = s.rules := rfl

@[simp] theorem startFrame_rules (s : State) : (startFrame s).rules = s.rules := by
  simp [startFrame, putInForce]

@[simp] theorem rebuild_rules (s : State) : (rebuild s).rules = s.rules := by
  rw [rebuild_eq]
  rfl

@[simp] theorem replayReset_rules (s : State) : (replayReset s).rules = s.rules := by
  have hfinished : ∀ (l : List Nat) (t : State), (l.foldl (fun s id => finishDraining id s) t).rules = t.rules := by
    intro l
    induction l with
    | nil => exact fun _ => rfl
    | cons a l ih => exact fun t => (ih _).trans (finishDraining_rules a t)
  unfold replayReset
  split
  · exact hfinished _ s
  · rfl

/-! ## The RBC's reports (R48, R63, R175) -/

@[simp] theorem grantEnded_rules (lost : Bool) (c : Nat) (s : State) : (grantEnded lost c s).rules = s.rules := by
  unfold grantEnded
  split
  · rfl
  · split
    · dsimp only
      split <;> simp
    · rfl

@[simp] theorem reportSent_rules (f : TxFrame) (s : State) : (reportSent f s).rules = s.rules := by
  unfold reportSent
  split <;> simp

@[simp] theorem reportDropped_rules (f : TxFrame) (s : State) : (reportDropped f s).rules = s.rules := by
  unfold reportDropped
  split
  · simp
  · split <;> simp
  · split <;> simp
  · split <;> simp
  all_goals rfl

@[simp] theorem enterMuted_rules (s : State) : (enterMuted s).rules = (mutedState s).rules := by
  have hdropped : ∀ (l : List TxFrame) (t : State), (l.foldl (fun s f => reportDropped f s) t).rules = t.rules := by
    intro l
    induction l with
    | nil => exact fun _ => rfl
    | cons f l ih => exact fun t => (ih _).trans (reportDropped_rules f t)
  exact hdropped _ _

@[simp] theorem collide_rules (t : Transmitter) (s : State) : (collide t s).rules = s.rules := by
  unfold collide
  dsimp only
  split_ifs <;> simp [nextFree]

end Sys2Proof.Machine
end

section
/-! R78, R91, R192, R199, R200: what a command that is no full reset can do to the node state, the start mode and the freeze map. -/
namespace Sys2Proof.Machine

/-- What a command that is no full reset may do: a move of the node state by the table of 11, with the start mode kept, and in normal
mode no group thawed. -/
structure RulesKept (s t : State) : Prop where
  node : NodeMove s.cfl.node t.cfl.node
  service : t.cfl.service = s.cfl.service
  frozen : s.cfl.service = false → ∀ k, s.ens.freeze.getLsbD k = true → t.ens.freeze.getLsbD k = true

theorem NodeMove.refl (a : NodeState) : NodeMove a a := by
  cases a <;> exact rfl

/-- A change of the freeze map alone. -/
theorem RulesKept.of_freeze {s t : State} (hc : t.cfl = s.cfl)
    (hf : s.cfl.service = false → ∀ k, s.ens.freeze.getLsbD k = true → t.ens.freeze.getLsbD k = true) : RulesKept s t :=
  ⟨hc ▸ NodeMove.refl _, congrArg Cfl.service hc, hf⟩

/-- What touches neither the Configuration Loader nor the freeze map. -/
theorem RulesKept.same {s t : State} (h : t.rules = s.rules) : RulesKept s t := by
  obtain ⟨hc, hf⟩ := rules_eq_iff.1 h
  exact .of_freeze hc fun _ k hk => hf ▸ hk

/-- A move of the node state alone. -/
theorem RulesKept.of_move {s t : State} {v : Cfl} (h : t.rules = (s.withCfl v).rules) (hs : v.service = s.cfl.service)
    (hn : NodeMove s.cfl.node v.node) : RulesKept s t := by
  obtain ⟨hc, hf⟩ := rules_eq_iff.1 h
  exact ⟨hc ▸ hn, hc ▸ hs, fun _ k hk => hf ▸ hk⟩

/-- A change may come behind what touches neither. -/
theorem RulesKept.behind {s t u : State} (hu : RulesKept t u) (h : t.rules = s.rules) : RulesKept s u := by
  obtain ⟨hc, hf⟩ := rules_eq_iff.1 h
  obtain ⟨hn, hs, hz⟩ := hu
  rw [hc] at hn hs hz
  rw [hf] at hz
  exact ⟨hn, hs, hz⟩

/-! ## Freezing (R90, R91, R160) -/

/-- R90, R160: a freeze sets flags and clears none. -/
theorem freezeGroups_kept (mask : BitVec 16) (s : State) : RulesKept s (freezeGroups mask s) :=
  .of_freeze rfl fun _ k hk => by simp [freezeGroups, hk]

theorem takeFreeze_kept (target : Nat) (mask : BitVec 16) (s : State) : RulesKept s (takeFreeze target mask s) := by
  unfold takeFreeze
  split
  · exact freezeGroups_kept mask s
  · exact .same rfl

/-- R91: an UNFREEZE clears flags in service mode only. -/
theorem takeUnfreeze_kept (target : Nat) (mask : BitVec 16) (s : State) : RulesKept s (takeUnfreeze target mask s) := by
  unfold takeUnfreeze
  split
  · split
    · next hs => exact .of_freeze rfl fun hn => absurd hs (by simp [hn])
    · exact .same rfl
  · exact .same rfl

/-- R160: a CLOCK freezes groups, at the adoption of FIRST_HALF. -/
theorem takePhase_kept (f : Phase) (s : State) : RulesKept s (takePhase f s) := by
  unfold takePhase
  split
  · dsimp only
    split
    · exact (freezeGroups_kept _ _).behind (withSck_rules s _)
    · exact .same rfl
  · exact .same rfl

theorem takeClock_kept (t : Nat) (f : Option Phase) (s : State) : RulesKept s (takeClock t f s) := by
  have htime : (takeTime t s).rules = s.rules := by
    unfold takeTime
    split_ifs <;> rfl
  unfold takeClock
  split
  · split
    · exact (takePhase_kept _ _).behind htime
    · exact .same htime
  · exact .same rfl

/-! ## Received frames (R165 to R167, R200) -/

theorem takeAdvert_rules (source : Nat) (a : AdvertPayload) (s : State) : (takeAdvert source a s).rules = s.rules := by
  unfold takeAdvert
  split <;> rfl

/-- R167: a frame that is routed. -/
theorem route_kept (kind : Byte) (source dest : Nat) (p : List Byte) (s : State) : RulesKept s (route kind source dest p s) := by
  unfold route
  split
  case h_1 => split; exacts [.same (takeAdvert_rules _ _ _), .same rfl]
  case h_2 => split; exacts [.same (takePull_rules _ _ _ _), .same rfl]
  case h_3 => split; exacts [.same (takeGrant_rules _ _ _), .same rfl]
  case h_4 => split; exacts [.same (takeNone_rules _ _ _), .same rfl]
  case h_5 => split; exacts [.same (takeHeld_rules _ _ _), .same rfl]
  case h_6 => split; exacts [.same (takeOffer_rules _ _ _ _), .same rfl]
  case h_7 => split; exacts [.same (takeAccept_rules _ _ _), .same rfl]
  case h_8 => split; exacts [.same (takeDecline_rules _ _ _), .same rfl]
  case h_9 => split; exacts [.same (takeClaim_rules _ _ _ _), .same rfl]
  case h_10 => split; exacts [.same (takeVerdict_rules _ _ _), .same rfl]
  case h_11 => split; exacts [takeClock_kept _ _ _, .same rfl]
  case h_12 => split; exacts [.same (takeEntitlement_rules _ _), .same rfl]
  case h_13 => split; exacts [takeFreeze_kept _ _ _, .same rfl]
  case h_14 => split; exacts [takeUnfreeze_kept _ _ _, .same rfl]
  case h_15 => split; exacts [.same (takeAnnounce_rules _ _), .same rfl]
  case h_16 => split; exacts [.same (takeSegment_rules _ _), .same rfl]
  case h_17 => exact .same rfl

/-- R166, R200: an address clash mutes a node in LISTENING or JOINED. -/
theorem addressClash_kept (s : State) : RulesKept s (addressClash s) := by
  unfold addressClash
  dsimp only
  split
  · next hnode =>
    refine .of_move (enterMuted_rules _) rfl ?_
    obtain h | h : s.cfl.node = .listening ∨ s.cfl.node = .joined := hnode <;> rw [h] <;> trivial
  · exact .same rfl

/-- R165: a frame reaches the node. -/
theorem receive_kept (kind : Byte) (f : BusFrame) (s : State) : RulesKept s (receive kind f s) := by
  have hended : (carrierEnded s).rules = s.rules := rfl
  unfold receive
  split
  · exact .same rfl
  · split
    · refine .behind ?_ hended
      unfold settleFrame
      split
      · exact .same rfl
      · split
        · exact addressClash_kept _
        · split
          · exact route_kept _ _ _ _ _
          · exact .same rfl
    · exact .same hended

/-! ## Moves of the node state (R195, R198, R199) -/

theorem enterUnconfigured_kept (reason : FaultReason) {s : State} (h : s.cfl.node = .loading) :
    RulesKept s (enterUnconfigured reason s) :=
  .of_move rfl rfl (by rw [h]; trivial)

theorem enterListening_kept (raw : NodeConfig) {s : State} (h : s.cfl.node = .loading) :
    RulesKept s (enterListening raw s) :=
  .of_move (v := (listeningState raw s).cfl) ((startFrame_rules _).trans (recompute_rules _)) rfl (by rw [h]; trivial)

theorem enterJoined_kept (c : NodeConfig) {s : State} (h : s.cfl.node = .listening) : RulesKept s (enterJoined c s) :=
  .of_move (v := { s.cfl with node := .joined, listenTimer := none })
    ((withPrm_rules _ _).trans ((queueAdvert_rules _).trans rfl)) rfl (by rw [h]; trivial)

/-! ## The commands -/

theorem rulesKept_of_next {s u t : State} (h : Host.Outcome.next (φ := Fault) (ρ := Refusal) u = .next t)
    (hu : RulesKept s u) : RulesKept s t := by
  cases h
  exact hu

/-- R181: the taking of a request. -/
theorem takeRequest_kept {α : Type} {kind : Nat} {read : List Byte → Option α} {act : α → State → State} {s t : State}
    (h : takeRequest kind read act s = .next t) (hact : ∀ a u, (act a u).rules = u.rules) : RulesKept s t := by
  unfold takeRequest at h
  split at h
  · exact rulesKept_of_next h (.same rfl)
  · split at h
    · exact rulesKept_of_next h (.same rfl)
    · exact rulesKept_of_next h (.same ((hact _ _).trans (popRequest_rules s)))

theorem takeNotice_kept {op : Nat → Bool} {act : BitVec 32 → Ntu → Ntu} {s t : State}
    (h : takeNotice op act s = .next t) : RulesKept s t := by
  unfold takeNotice at h
  split at h
  · exact rulesKept_of_next h (.same rfl)
  · split at h
    · split at h <;> exact rulesKept_of_next h (.same rfl)
    · exact rulesKept_of_next h (.same rfl)

/-- R193, R194, R198: the image. -/
theorem execImageReadComplete_kept {image : List Byte} {s t : State} (h : execImageReadComplete image s = .next t) :
    RulesKept s t := by
  unfold execImageReadComplete at h
  split at h
  · next hnode =>
    dsimp only at h
    split at h
    · exact rulesKept_of_next h (enterUnconfigured_kept _ hnode.1)
    · exact rulesKept_of_next h (enterListening_kept _ hnode.1)
  · exact rulesKept_of_next h (.same rfl)

/-- Command by command: the image and the listen timer move the node state, a frame can mute the node or change the freeze map, and
every other command touches neither the Configuration Loader nor the freeze map. -/
theorem exec_kept {i : Instr} {s t : State} (hi : ∀ strap, i ≠ .fullReset strap) (h : exec i s = .next t) : RulesKept s t := by
  cases i with
  | fullReset strap => exact absurd rfl (hi strap)
  | imageReadComplete image => exact execImageReadComplete_kept h
  | imageReadFailed =>
    simp only [exec, execImageReadFailed] at h
    split at h
    · next hnode => exact rulesKept_of_next h (enterUnconfigured_kept _ hnode)
    · exact rulesKept_of_next h (.same rfl)
  | listenTimerExpiry =>
    simp only [exec, execListenTimerExpiry] at h
    split at h
    · exact rulesKept_of_next h (.same rfl)
    · split at h
      · next hnode => exact rulesKept_of_next h (enterJoined_kept _ hnode.1)
      · exact rulesKept_of_next h (.same rfl)
  | loadAdvert f | ctxPull f | ctxGrant f | ctxNone f | ctxHeld f | steerOffer f | steerAccept f | steerDecline f
  | checkinClaim f | checkinVerdict f | checkinNote f | incident f | resyncRequest f | issue f | reissue f | void f
  | clearCheckin f | resyncFill f | invalidEntitlementCode f | freeze f | unfreeze f | clock f | streamAnnounce f
  | segment f | unknownKindFrame kind f => exact rulesKept_of_next h (receive_kept _ _ _)
  | carrierEnd run =>
    simp only [exec, execCarrierEnd] at h
    split at h
    · split at h <;> exact rulesKept_of_next h (.same rfl)
    · exact rulesKept_of_next h (receive_kept _ _ _)
  | associate => exact takeRequest_kept h (associate_rules false)
  | heard => exact takeRequest_kept h fun _ _ => rfl
  | depart => exact takeRequest_kept h takeDepart_rules
  | presentTicket => exact takeRequest_kept h present_rules
  | subscribe => exact takeRequest_kept h fun a => subscribe_rules a.1 a.2
  | unsubscribe => exact takeRequest_kept h fun a => unsubscribe_rules a.1 a.2
  | replayReset => exact takeRequest_kept h fun _ => replayReset_rules
  | statusQuery => exact takeRequest_kept h fun _ _ => rfl
  | enable => exact takeNotice_kept (op := (· == 0)) h
  | disable => exact takeNotice_kept (op := (· == 1)) h
  | ack => exact takeNotice_kept (op := (· == 2)) h
  | globalOn => exact takeNotice_kept (op := (· == 3)) (act := fun _ n => { n with globalEnable := true }) h
  | globalOff => exact takeNotice_kept (op := (· == 4)) (act := fun _ n => { n with globalEnable := false }) h
  | clearAll => exact takeNotice_kept (op := (· == 5)) h
  | noticeControlBadOperation => exact takeNotice_kept (op := fun op => decide (5 < op)) (act := fun _ n => n) h
  | declineHoldExpiry station => exact rulesKept_of_next h (.same rfl)
  | pullResponseTimeout c => exact rulesKept_of_next h (.same (responseExpiry_rules pullAttemptFails_rules))
  | offerResponseTimeout c => exact rulesKept_of_next h (.same (responseExpiry_rules fun e => offerEnds_rules e.client))
  | basebandReady ready => exact rulesKept_of_next h (.same rfl)
  | carrierStart => exact rulesKept_of_next h (.same rfl)
  | siteTimeTick | frameStart | slotStart | lastSlotStart | advertTimerExpiry | jamWatchExpiry | recordTaken
  | linkRecordArrival kind body check =>
    simp only [exec, execSiteTimeTick, execFrameStart, execSlotStart, execLastSlotStart, execAdvertTimerExpiry,
      execJamWatchExpiry, execRecordTaken, execLinkRecordArrival] at h
    split at h <;> exact rulesKept_of_next h (.same (by simp))
  | ageTimerExpiry n | idleTimerExpiry n | claimantTimerExpiry n | expectationHoldExpiry n | steerHoldExpiry n
  | claimTimerExpiry n | backoffEnd | collision | frameSent | waitQueueHead =>
    simp only [exec, execAgeTimerExpiry, execIdleTimerExpiry, execClaimantTimerExpiry, execExpectationHoldExpiry,
      execSteerHoldExpiry, execClaimTimerExpiry, execBackoffEnd, execCollision, execFrameSent, execWaitQueueHead] at h
    split at h
    · exact rulesKept_of_next h (.same rfl)
    · split at h <;> exact rulesKept_of_next h (.same (by simp))
  | unknownKindRecord | hoeBacklogMove | ckuBacklogMove | astBacklogMove | streamEnded | noticeDelivery =>
    simp only [exec, execUnknownKindRecord, execHoeBacklogMove, execCkuBacklogMove, execAstBacklogMove, execStreamEnded,
      execNoticeDelivery] at h
    split at h
    · exact rulesKept_of_next h (.same rfl)
    · split at h <;> exact rulesKept_of_next h (.same rfl)
  | holdOffTimerExpiry =>
    simp only [exec, execHoldOffTimerExpiry] at h
    split at h
    · exact rulesKept_of_next h (.same rfl)
    · exact rulesKept_of_next h (.same (by split <;> simp))
  | txStart idle =>
    simp only [exec, execTxStart] at h
    split at h
    · split at h <;> exact rulesKept_of_next h (.same rfl)
    · exact rulesKept_of_next h (.same rfl)
  | retryAttemptStart idle =>
    simp only [exec, execRetryAttemptStart] at h
    split at h
    · exact rulesKept_of_next h (.same rfl)
    · split at h
      · split at h <;> exact rulesKept_of_next h (.same rfl)
      · exact rulesKept_of_next h (.same rfl)

/-- Settles O47, command by command. -/
theorem rulesOfEveryCommand : Obligations.RulesOfEveryCommand := fun _ _ _ hi h =>
  have hkept := exec_kept hi h
  ⟨hkept.node, hkept.service, hkept.frozen⟩

end Sys2Proof.Machine
end

section
/-! What an ENTITLEMENT frame comes to: its action, the entry that it finds, the ticket rule and the writes of the seat block (R79 to
R84). -/
namespace Sys2Proof.Machine

/-! ## The frame and its entry (R78, R79) -/

/-- 12.1: the action byte of an ENTITLEMENT command is its row's. -/
theorem readEntitlement_action {code : Byte} {f : BusFrame} {a : Entitlement}
    (h : readEntitlement (withAction code f).payload = some a) : actionOfCode code.toNat = some a.action := by
  unfold readEntitlement at h
  split at h
  · next hlen =>
    have hcode : fieldAt (withAction code f).payload 2 1 = code.toNat := by
      have h2 : 2 < (f.payload.set 2 code).length := by
        have : (f.payload.set 2 code).length = 25 := hlen
        omega
      simp [withAction, fieldAt, beNat, List.drop_eq_getElem_cons h2]
    rw [hcode] at h
    split at h
    · next ha _ _ _ =>
      dsimp only at h
      split_ifs at h
      cases h
      exact ha
    · cases h
  · cases h

/-- 12.1: the code of RESYNC_FILL is no other action's. -/
theorem actionOfCode_fill {n : Nat} (h : actionOfCode n = some .resyncFill) : n = 4 := by
  match n with
  | 4 => rfl
  | 0 | 1 | 2 | 3 => cases h
  | n + 5 => simp [actionOfCode] at h

theorem readEntitlement_not_fill {code : Byte} {f : BusFrame} {a : Entitlement}
    (h : readEntitlement (withAction code f).payload = some a) (hcode : code ≠ 4) : a.action ≠ .resyncFill :=
  fun hfill => hcode (BitVec.eq_of_toNat_eq (actionOfCode_fill ((readEntitlement_action h).trans (congrArg some hfill))))

theorem receive_entitlement {code : Byte} {source : Nat} {f : BusFrame} {a : Entitlement} {s : State}
    (ht : FrameTaken 33 source (withAction code f) s) (hr : readEntitlement (withAction code f).payload = some a) :
    receive 33#8 (withAction code f) s = takeEntitlement a (carrierEnded s) := by
  have hroute : ∀ dest, route 33#8 source dest (withAction code f).payload (carrierEnded s) =
      takeEntitlement a (carrierEnded s) := fun dest => by simp [route, hr]
  exact (receive_taken ht).trans (hroute _)

/-- R79, step 1: a frame for a seat outside the block has no effect. -/
theorem takeEntitlement_outside {a : Entitlement} {s : State} (h : seatIndex a.seat s = none) : takeEntitlement a s = s := by
  unfold takeEntitlement
  rw [h]
  split_ifs <;> cases s.cfl.config <;> rfl

theorem takeEntitlement_found {c : NodeConfig} {index : Nat} {e : SeatEntry} {a : Entitlement} {s : State}
    (h : EntryFound c index e a s) : takeEntitlement a s = decideEntitlement c index e a s := by
  obtain ⟨hhear, hc, hindex, he⟩ := h
  simp [takeEntitlement, hhear, hc, hindex, he]

theorem receive_update {code : Byte} {source : Nat} {f : BusFrame} {c : NodeConfig} {index : Nat} {e : SeatEntry}
    {a : Entitlement} {s : State} (h : UpdateNext code source f c index e a s) :
    receive 33#8 (withAction code f) s = decideEntitlement c index e a (carrierEnded s) := by
  obtain ⟨ht, hr, hfound, -⟩ := h
  exact (receive_entitlement ht hr).trans (takeEntitlement_found (s := carrierEnded s) hfound)

/-! ## The steps before the action (R79, R81, R82) -/

theorem decideEntitlement_frozen {c : NodeConfig} {index : Nat} {e : SeatEntry} {a : Entitlement} {s : State}
    (ha : a.action ≠ .resyncFill) (h : GroupFrozen c index s) : decideEntitlement c index e a s = refuseFrozen s := by
  rw [decideEntitlement, if_neg ha]
  exact if_pos h

theorem decideEntitlement_stale {c : NodeConfig} {index : Nat} {e : SeatEntry} {a : Entitlement} {s : State}
    (ha : a.action ≠ .resyncFill) (h : ¬ GroupFrozen c index s) (hrev : a.revision ≤ e.revision) :
    decideEntitlement c index e a s = countStale s := by
  rw [decideEntitlement, if_neg ha]
  exact (if_neg h).trans (if_pos hrev)

theorem decideEntitlement_open {c : NodeConfig} {index : Nat} {e : SeatEntry} {a : Entitlement} {s : State}
    (ha : a.action ≠ .resyncFill) (h : UpdateOpen c index e a s) :
    decideEntitlement c index e a s = applyAction c index e a s := by
  obtain ⟨hopen, hrev⟩ := h
  rw [decideEntitlement, if_neg ha]
  exact (if_neg (by simpa [frozenAt, groupOf, groupWidth] using hopen)).trans (if_neg (Nat.not_le.2 hrev))

theorem decideEntitlement_fill {c : NodeConfig} {index : Nat} {e : SeatEntry} {a : Entitlement} {s : State}
    (ha : a.action = .resyncFill) : decideEntitlement c index e a s = applyFill index e a s :=
  if_pos ha

/-! ## The write of an entry (R40, R84) -/

/-- R40: a demotion is the end of a check-in. -/
theorem demote_eq (client q : Nat) {s : State} (hn : (s.ast.records.map Record.client).Nodup) :
    demote client q s = checkinEnded client q s := by
  unfold demote checkinEnded
  cases hr : findRecord client s with
  | none => rfl
  | some r =>
    dsimp only
    split
    · exact congrArg recompute (updateRecord_found hr hn demotedRecord)
    · rfl

/-- R84: the write of an entry, by the entry that stood there. -/
theorem replaceSeat_eq (c : NodeConfig) {index : Nat} {old : SeatEntry} (new : SeatEntry) {s : State}
    (h : s.ens.seats[index]? = some old) (hn : (s.ast.records.map Record.client).Nodup) :
    replaceSeat c index new s = seatBecomes c index old new s := by
  unfold replaceSeat seatBecomes
  rw [h]
  cases hst : old.standing with
  | checkedIn t holder time =>
    simp only [Option.map_some, hst]
    exact demote_eq holder _ hn
  | empty | issued t | void t => simp only [Option.map_some, hst, writeSeat]

/-- R22, R84: the write of an entry leaves the clients of the records as they are. -/
theorem replaceSeat_clients (c : NodeConfig) (index : Nat) (e : SeatEntry) (s : State) :
    (replaceSeat c index e s).ast.records.map Record.client = s.ast.records.map Record.client := by
  rcases replaceSeat_cases c index e s with ⟨h, -⟩ | ⟨old, t, holder, time, -, -, h⟩ <;> rw [h]
  · rfl
  · rcases demote_cases holder (c.firstSeat + index) (writeSeat index e s) with ⟨hd, -⟩ | ⟨r, -, -, hd⟩ <;> rw [hd]
    · rfl
    · rw [recompute_ast]
      exact updateRecord_clients holder demotedRecord _ fun _ => rfl

theorem replaceSeat_other {c : NodeConfig} {i j : Nat} (e : SeatEntry) (s : State) (h : j ≠ i) :
    (replaceSeat c j e s).ens.seats[i]? = s.ens.seats[i]? := by
  rw [(replaceSeat_frame c j e s).2]
  exact List.getElem?_set_ne h

/-! ## The ticket rule (R83) -/

theorem otherHolder_free {index number : Nat} {s : State} (h : TicketFree index number s) :
    otherHolder index number s = none := by
  simp only [otherHolder, List.find?_eq_none, List.mem_range]
  intro i hi
  by_cases hne : i = index
  · simp [hne]
  · simpa [hne] using h i hi hne

/-- R83: the one other entry that holds the number is the one that the search finds. -/
theorem otherHolder_at {j index number : Nat} {e : SeatEntry} {s : State} (h : TicketAt j index number e s) :
    otherHolder index number s = some j := by
  obtain ⟨hne, he, hnumber, hothers⟩ := h
  cases hfound : otherHolder index number s with
  | none =>
    have hlt : j < s.ens.seats.length := (List.getElem?_eq_some_iff.1 he).1
    exact absurd (by simp [he, hnumber]) (otherHolder_none hfound j hlt hne)
  | some i =>
    obtain ⟨hi, hiholds⟩ := otherHolder_some hfound
    by_contra hij
    obtain ⟨x, hx, -⟩ := Option.bind_eq_some_iff.1 hiholds
    exact hothers i (List.getElem?_eq_some_iff.1 hx).1 hi (fun h => hij (congrArg some h)) hiholds

theorem placeTicket_free {c : NodeConfig} {index number : Nat} {apply : State → State} {s : State}
    (h : TicketFree index number s) : placeTicket c index number apply s = apply s := by
  simp only [placeTicket, otherHolder_free h]

theorem placeTicket_frozen {c : NodeConfig} {index number j : Nat} {e : SeatEntry} {apply : State → State} {s : State}
    (h : TicketAt j index number e s) (hf : GroupFrozen c j s) : placeTicket c index number apply s = refuseFrozen s := by
  simp only [placeTicket, otherHolder_at h]
  exact if_pos hf

/-- R83: the ticket is released from its other seat before it is placed. -/
theorem placeTicket_released {c : NodeConfig} {index number j : Nat} {e : SeatEntry} {apply : State → State} {s : State}
    (h : TicketAt j index number e s) (hf : ¬ GroupFrozen c j s) :
    placeTicket c index number apply s = apply (replaceSeat c j emptySeat s) := by
  simp only [placeTicket, otherHolder_at h]
  exact if_neg hf

end Sys2Proof.Machine
end

section
/-! Seat entitlements: the ENTITLEMENT commands (R79 to R88) and the freezing commands (R90, R91). -/
namespace Sys2Proof.Machine

/-! ## Refusals (R79, R81, R82) -/

/-- Settles O42, by the step that ends the frame. -/
theorem entitlementRefused : Obligations.EntitlementRefused := by
  intro i code source f s u hi
  have hexec : exec i s = .next (receive 33#8 (withAction code f) s) := by
    rcases hi with ⟨rfl, rfl⟩ | ⟨rfl, rfl⟩ | ⟨rfl, rfl⟩ | ⟨rfl, rfl⟩ | ⟨rfl, rfl⟩ <;> rfl
  rw [hexec]
  refine ⟨fun a hread htaken houtside => ?_, fun c index e a hnext hcode => ?_⟩
  · rw [receive_entitlement htaken hread]
    exact congrArg _ (takeEntitlement_outside (s := u) houtside)
  · obtain ⟨-, hread, -, -⟩ := id hnext
    have haction : a.action ≠ .resyncFill := readEntitlement_not_fill hread hcode
    rw [receive_update hnext]
    exact ⟨fun hfrozen => congrArg _ (decideEntitlement_frozen (s := u) haction hfrozen),
      fun hopen hrev => congrArg _ (decideEntitlement_stale (s := u) haction hopen hrev)⟩

/-! ## ISSUE and REISSUE (R83, R85, R86) -/

/-- R85, R86: the entry becomes ISSUED, with the notice where it held a ticket, once the ticket rule lets it. -/
def seatIssued (c : NodeConfig) (index : Nat) (e : SeatEntry) (a : Entitlement) (s : State) : State :=
  let issued := replaceSeat c index { standing := .issued a.ticket, revision := a.revision, duplicates := 0 } s
  match e.standing with
  | .empty | .void _ => issued
  | .issued _ | .checkedIn .. => raise .ticketReissued issued

theorem applyIssue_eq (c : NodeConfig) (index : Nat) (e : SeatEntry) (a : Entitlement) (s : State) :
    applyIssue c index e a s = placeTicket c index a.ticket.number (seatIssued c index e a) s := by
  unfold applyIssue seatIssued
  cases e.standing <;> rfl

theorem seatIssued_held {c : NodeConfig} {index : Nat} {e : SeatEntry} {a : Entitlement} {s : State}
    (h : e.standing ≠ .empty ∧ ∀ t, e.standing ≠ .void t) :
    seatIssued c index e a s = raise .ticketReissued
      (replaceSeat c index { standing := .issued a.ticket, revision := a.revision, duplicates := 0 } s) := by
  obtain ⟨hempty, hvoid⟩ := h
  unfold seatIssued
  cases hst : e.standing with
  | empty => exact absurd hst hempty
  | void t => exact absurd hst (hvoid t)
  | issued t => rfl
  | checkedIn t holder time => rfl

theorem seatIssued_unheld {c : NodeConfig} {index : Nat} {e : SeatEntry} {a : Entitlement} {s : State}
    (h : ¬ (e.standing ≠ .empty ∧ ∀ t, e.standing ≠ .void t)) :
    seatIssued c index e a s =
      replaceSeat c index { standing := .issued a.ticket, revision := a.revision, duplicates := 0 } s := by
  unfold seatIssued
  cases hst : e.standing with
  | empty => rfl
  | void t => rfl
  | issued t => exact absurd (by simp [hst]) h
  | checkedIn t holder time => exact absurd (by simp [hst]) h

/-- Settles O43, by where the ticket stands. -/
theorem issuePlacesTicket : Obligations.IssuePlacesTicket := by
  intro i code source f c index e a s hi hnext hopen u issued held placed
  obtain ⟨-, hread, ⟨-, -, -, he⟩, hn⟩ := id hnext
  have hexec : exec i s = .next (placeTicket c index a.ticket.number (seatIssued c index e a) u) := by
    have hreceive : exec i s = .next (receive 33#8 (withAction code f) s) := by
      rcases hi with ⟨rfl, rfl⟩ | ⟨rfl, rfl⟩ <;> rfl
    have haction : a.action = .issue ∨ a.action = .reissue := by
      have h := readEntitlement_action hread
      rcases hi with ⟨-, rfl⟩ | ⟨-, rfl⟩
      · exact .inl (Option.some.inj h).symm
      · exact .inr (Option.some.inj h).symm
    have happly : applyAction c index e a u = applyIssue c index e a u := by
      rcases haction with h | h <;> simp only [applyAction, h]
    rw [hreceive, receive_update hnext,
      decideEntitlement_open (s := carrierEnded s) (by rcases haction with h | h <;> simp [h]) hopen]
    exact congrArg _ (happly.trans (applyIssue_eq c index e a u))
  have hplaced : ∀ x : State, x.ens.seats[index]? = some e → (x.ast.records.map Record.client).Nodup →
      placeTicket c index a.ticket.number (seatIssued c index e a) u = seatIssued c index e a x → placed x := by
    intro x hx hnx hplace
    have hwrite := replaceSeat_eq c issued hx hnx
    exact ⟨fun hheld => hexec.trans (congrArg _ (hplace.trans ((seatIssued_held hheld).trans (congrArg (raise _) hwrite)))),
      fun hunheld => hexec.trans (congrArg _ (hplace.trans ((seatIssued_unheld hunheld).trans hwrite)))⟩
  refine ⟨fun hfree => hplaced u he hn (placeTicket_free (s := u) hfree), fun j e' hat => ⟨fun hfrozen => ?_, fun hthawed => ?_⟩⟩
  · exact hexec.trans (congrArg _ (placeTicket_frozen (s := u) hat hfrozen))
  · obtain ⟨hne, he', -, -⟩ := id hat
    have hreleased : seatBecomes c j e' emptySeat u = replaceSeat c j emptySeat u :=
      (replaceSeat_eq (s := u) c emptySeat he' hn).symm
    change placed (seatBecomes c j e' emptySeat u)
    rw [hreleased]
    exact hplaced _ ((replaceSeat_other emptySeat u hne).trans he) (by rwa [replaceSeat_clients])
      (placeTicket_released (s := u) hat hthawed)

/-! ## VOID and CLEAR_CHECKIN (R83, R84, R87, R88) -/

/-- R87: a VOID of an entry that holds a ticket. -/
theorem applyVoid_held {c : NodeConfig} {index : Nat} {e : SeatEntry} {a : Entitlement} {t : Ticket} {s : State}
    (h : e.standing = .issued t ∨ e.standing = .void t ∨ ∃ k n, e.standing = .checkedIn t k n) :
    applyVoid c index e a s = replaceSeat c index { e with standing := .void t, revision := a.revision } s := by
  rcases h with h | h | ⟨k, n, h⟩ <;> simp only [applyVoid, h]

/-- R88: a CLEAR_CHECKIN of an entry that is not CHECKED_IN. -/
theorem applyClear_unchecked {c : NodeConfig} {index : Nat} {e : SeatEntry} {a : Entitlement} {s : State}
    (h : ∀ t k n, e.standing ≠ .checkedIn t k n) : applyClear c index e a s = s := by
  unfold applyClear
  cases hst : e.standing with
  | checkedIn t k n => exact absurd hst (h t k n)
  | empty | issued t | void t => rfl

theorem exec_void {source : Nat} {f : BusFrame} {c : NodeConfig} {index : Nat} {e : SeatEntry} {a : Entitlement} {s : State}
    (h : UpdateNext 2 source f c index e a s) (ho : UpdateOpen c index e a s) :
    exec (.void f) s = .next (applyVoid c index e a (carrierEnded s)) := by
  obtain ⟨-, hread, -, -⟩ := id h
  have haction : a.action = .void := (Option.some.inj (readEntitlement_action hread)).symm
  refine congrArg Host.Outcome.next ((receive_update h).trans ?_)
  rw [decideEntitlement_open (s := carrierEnded s) (by simp [haction]) ho]
  simp only [applyAction, haction]

theorem exec_clearCheckin {source : Nat} {f : BusFrame} {c : NodeConfig} {index : Nat} {e : SeatEntry} {a : Entitlement}
    {s : State} (h : UpdateNext 3 source f c index e a s) (ho : UpdateOpen c index e a s) :
    exec (.clearCheckin f) s = .next (applyClear c index e a (carrierEnded s)) := by
  obtain ⟨-, hread, -, -⟩ := id h
  have haction : a.action = .clearCheckin := (Option.some.inj (readEntitlement_action hread)).symm
  refine congrArg Host.Outcome.next ((receive_update h).trans ?_)
  rw [decideEntitlement_open (s := carrierEnded s) (by simp [haction]) ho]
  simp only [applyAction, haction]

/-- Settles O44, by the standing of the entry. -/
theorem voidAndClearDecided : Obligations.VoidAndClearDecided := by
  intro source f c index e a s hopen u
  refine ⟨fun hnext => ?_, fun hnext => ?_⟩
  · obtain ⟨-, -, ⟨-, -, -, he⟩, hn⟩ := id hnext
    rw [exec_void hnext hopen]
    let voided : SeatEntry := { standing := .void a.ticket, revision := a.revision, duplicates := 0 }
    have hempty : e.standing = .empty →
        applyVoid c index e a u = placeTicket c index a.ticket.number (replaceSeat c index voided) u := fun hst => by
      simp only [applyVoid, hst]
      rfl
    refine ⟨fun hst hfree => congrArg _ ?_, fun j e' hst hat hthawed => congrArg _ ?_,
      fun j e' hst hat hfrozen => congrArg _ ?_, fun t ht => congrArg _ ?_⟩
    · exact (hempty hst).trans ((placeTicket_free (s := u) hfree).trans (replaceSeat_eq (s := u) c voided he hn))
    · obtain ⟨hne, he', -, -⟩ := id hat
      refine (hempty hst).trans ((placeTicket_released (s := u) hat hthawed).trans ?_)
      rw [replaceSeat_eq c voided ((replaceSeat_other emptySeat u hne).trans he) (by rwa [replaceSeat_clients]),
        replaceSeat_eq (s := u) c emptySeat he' hn]
      rfl
    · exact (hempty hst).trans (placeTicket_frozen (s := u) hat hfrozen)
    · exact (applyVoid_held ht).trans (replaceSeat_eq (s := u) c _ he hn)
  · obtain ⟨-, -, ⟨-, -, -, he⟩, hn⟩ := id hnext
    rw [exec_clearCheckin hnext hopen]
    refine ⟨fun t k n hst => congrArg _ ?_, fun hst => congrArg _ (applyClear_unchecked hst)⟩
    simp only [applyClear, hst]
    exact replaceSeat_eq (s := u) c _ he hn

/-! ## RESYNC_FILL (R80, R83) -/

theorem exec_resyncFill {source : Nat} {f : BusFrame} {c : NodeConfig} {index : Nat} {e : SeatEntry} {a : Entitlement}
    {s : State} (h : UpdateNext 4 source f c index e a s) :
    exec (.resyncFill f) s = .next (applyFill index e a (carrierEnded s)) := by
  obtain ⟨-, hread, -, -⟩ := id h
  have haction : a.action = .resyncFill := (Option.some.inj (readEntitlement_action hread)).symm
  exact congrArg Host.Outcome.next ((receive_update h).trans (decideEntitlement_fill haction))

/-- R80: an entry that is not EMPTY stays. -/
theorem applyFill_held {index : Nat} {e : SeatEntry} {a : Entitlement} {s : State} (h : e.standing ≠ .empty) :
    applyFill index e a s = s := by
  unfold applyFill
  cases hst : e.standing with
  | empty => exact absurd hst h
  | issued t | checkedIn t k n | void t => rfl

theorem applyFill_empty {index : Nat} {e : SeatEntry} {a : Entitlement} {s : State} (h : e.standing = .empty)
    (hfree : TicketFree index a.ticket.number s) :
    applyFill index e a s =
      writeSeat index { standing := fillStanding s.sck.time a, revision := a.revision, duplicates := 0 } s := by
  simp [applyFill, h, otherHolder_free hfree]

/-- R83: a ticket that another seat holds makes the fill stale. -/
theorem applyFill_stale {index : Nat} {e : SeatEntry} {a : Entitlement} {s : State} (h : e.standing = .empty)
    (hheld : ¬ TicketFree index a.ticket.number s) : applyFill index e a s = countStale s := by
  have hother : (otherHolder index a.ticket.number s).isSome = true := by
    rw [Option.isSome_iff_ne_none]
    exact fun hnone => hheld (otherHolder_none hnone)
  simp [applyFill, h, hother]

/-- Settles O45, by the standing of the entry and the state that the frame carries. -/
theorem resyncFillDecided : Obligations.ResyncFillDecided := by
  intro source f c index e a s hnext u filled
  have hexec : exec (.resyncFill f) s = .next (applyFill index e a u) := exec_resyncFill hnext
  refine ⟨fun hst => hexec.trans (congrArg _ (applyFill_held hst)), fun hst hfree => ?_,
    fun hst hheld => hexec.trans (congrArg _ (applyFill_stale (s := u) hst hheld))⟩
  have hfilled : ∀ x, fillStanding s.sck.time a = x → filled x := by
    rintro x rfl
    exact hexec.trans (congrArg _ (applyFill_empty (s := u) hst hfree))
  refine ⟨fun hfill => hfilled _ ?_, fun hfill => hfilled _ ?_, fun client hclient hfill => ⟨fun time htime => hfilled _ ?_,
    fun htime => hfilled _ ?_⟩, fun hfill hclient => hfilled _ ?_⟩
  · simp [fillStanding, hfill]
  · simp [fillStanding, hfill]
  · simp [fillStanding, hfill, hclient, htime]
  · simp [fillStanding, hfill, hclient, htime]
  · simp [fillStanding, hfill, hclient]

/-! ## FREEZE and UNFREEZE (R90, R91) -/

theorem targeted_iff {c : NodeConfig} {target : Nat} {s : State} (hh : s.hearing = true) (hc : s.cfl.config = some c) :
    targeted target s = true ↔ target = c.firstSeat := by
  simp only [targeted, hh, hc, Option.map_some, Bool.true_and, beq_iff_eq, Option.some.injEq]
  exact eq_comm

theorem exec_freeze {source target : Nat} {mask : BitVec 16} {f : BusFrame} {s : State} (h : FrameTaken 34 source f s)
    (hr : readFreeze f.payload = some (target, mask)) :
    exec (.freeze f) s = .next (takeFreeze target mask (carrierEnded s)) := by
  have hroute : route 34#8 source f.dest.toNat f.payload (carrierEnded s) = takeFreeze target mask (carrierEnded s) := by
    simp [route, hr]
  exact congrArg Host.Outcome.next ((receive_taken h).trans hroute)

theorem exec_unfreeze {source target : Nat} {mask : BitVec 16} {f : BusFrame} {s : State} (h : FrameTaken 35 source f s)
    (hr : readFreeze f.payload = some (target, mask)) :
    exec (.unfreeze f) s = .next (takeUnfreeze target mask (carrierEnded s)) := by
  have hroute : route 35#8 source f.dest.toNat f.payload (carrierEnded s) = takeUnfreeze target mask (carrierEnded s) := by
    simp [route, hr]
  exact congrArg Host.Outcome.next ((receive_taken h).trans hroute)

/-- Settles O46, by the target of the frame and the start mode. -/
theorem freezeAndUnfreeze : Obligations.FreezeAndUnfreeze := by
  intro source target mask f c s hread hhear hc u
  have htarget : targeted target u = true ↔ target = c.firstSeat := targeted_iff (s := u) hhear hc
  refine ⟨fun htaken => ?_, fun htaken => ?_⟩
  · rw [exec_freeze htaken hread]
    refine ⟨fun hother => congrArg _ (if_neg (mt htarget.1 hother)), fun hown => ⟨freezeGroups mask u, ?_, rfl, fun k => ?_⟩⟩
    · exact congrArg _ (if_pos (htarget.2 hown))
    · exact BitVec.getLsbD_or
  · rw [exec_unfreeze htaken hread]
    refine ⟨fun hother => congrArg _ (if_neg (mt htarget.1 hother)), fun hown hnormal => congrArg _ ?_,
      fun hown hservice => ⟨u.withEns { s.ens with freeze := s.ens.freeze &&& ~~~mask }, congrArg _ ?_, rfl, fun k => ?_⟩⟩
    · exact (if_pos (htarget.2 hown)).trans (if_neg (by simpa [u, carrierEnded] using hnormal))
    · exact (if_pos (htarget.2 hown)).trans (if_pos hservice)
    · by_cases hk : k < 16
      · simp [hk]
      · simp [BitVec.getLsbD_of_ge _ _ (Nat.not_lt.1 hk)]

end Sys2Proof.Machine
end

section
/-! The entry to LISTENING with a faultless image (R137, R143, R194, R198). -/
namespace Sys2Proof.Machine

/-! ## The image (R194, R197) -/

/-- R194: an image of which no check fails. -/
theorem imageFault_none {b : List Byte} (hsum : byteSum b = 0) (hformat : fieldAt b 0 1 = 1) (hstation : 1 ≤ fieldAt b 2 1)
    (hlast : fieldAt b 2 1 ≤ 31) (hsection : fieldAt b 1 1 ≠ 0) (hseat : 1 ≤ fieldAt b 3 2) (hblock : fieldAt b 3 2 ≤ 4095)
    (hcount : fieldAt b 5 2 ≠ 0) : imageFault b = none := by
  have haddress : ¬ ((readImage b).station = 0 ∨ 31 < (readImage b).station) := by
    simp only [readImage]
    omega
  have hsect : (readImage b).sectionId ≠ 0 := hsection
  have hseats : ¬ ((readImage b).firstSeat = 0 ∨ 4095 < (readImage b).firstSeat ∨ (readImage b).seatCount = 0) := by
    simp only [readImage]
    omega
  simp [imageFault, hsum, hformat, haddress, hsect, hseats]

/-- R197: the limits of HIGH and CRITICAL lie above the least pressure. -/
theorem clampLimits_above (low high critical : Int) :
    -1600 < (clampLimits low high critical).2.1 ∧ -1600 < (clampLimits low high critical).2.2 := by
  unfold clampLimits clampLimit
  dsimp only
  split <;> dsimp only <;> omega

theorem clampConfig_limits (r : NodeConfig) : -1600 < (clampConfig r).high ∧ -1600 < (clampConfig r).critical :=
  clampLimits_above _ _ _

/-! ## The first computation and the first frame (R4, R137, R143) -/

/-- R2, R3: the pressure of an empty cell without replay. -/
theorem pressureOf_zero (c : NodeConfig) : pressureOf c 0 0 = -1600 := by
  simp [pressureOf, loadOf, clientShare, airtimeShare, saturate]

/-- R4: a recompute that finds the pressure and the monitor as they are, with no advert to compare with, changes nothing. -/
theorem recompute_settled {c : NodeConfig} {s : State} (hc : s.cfl.config = some c)
    (hp : pressureOf c s.clients s.assigned = s.prm.pressure) (hm : s.prm.monitor.evaluate c s.prm.pressure = s.prm.monitor)
    (hl : s.prm.lastAdvert = none) : recompute s = s := by
  have heval : evaluated c s = s := by
    simp only [evaluated, hp, hm, restoreHoldAfter, if_true]
    rfl
  rw [recompute_evaluated hc, heval]
  simp [changeTrigger, hl]

/-- R4: no client and no assigned slot, from the values of the full reset. -/
theorem recompute_fresh {r : NodeConfig} {s : State} (hc : s.cfl.config = some (clampConfig r))
    (hp : s.prm = State.reset.prm) (hn : s.clients = 0) (ha : s.assigned = 0) : recompute s = s := by
  obtain ⟨hhigh, hcritical⟩ := clampConfig_limits r
  refine recompute_settled hc ?_ ?_ ?_ <;> rw [hp]
  · rw [hn, ha]
    exact pressureOf_zero _
  · exact (if_neg (not_le.2 hcritical)).trans (if_neg (not_le.2 hhigh))
  · rfl

/-- R150: the start of a slot behind which no SLOT_OUT record waits. -/
theorem startSlot_clear {slot : Nat} {s : State} (hl : s.rsl.slotLane = []) (hm : s.sls.slotMissed ≤ 65535) :
    startSlot slot s = s.withSls { s.sls with slot := slot } := by
  have hkept : keptSlotOut s.rsl = s.rsl.slotLane := by simp [keptSlotOut, hl]
  simp only [startSlot, discardUnsent, hkept, Nat.sub_self, satAdd, Nat.add_zero, Nat.min_eq_right hm]
  rfl

/-- R134: with an empty cache nothing is dropped. -/
theorem gapDrop_empty {s : State} (hc : s.rpc.cache = []) (hg : s.rpc.gaps ≤ 65535) : gapDrop s = s := by
  have hcount : s.rpc.cache.countP (gapped s.rpc.cache) = 0 := by simp [hc]
  have hkept : s.rpc.cache.filter (fun r => !gapped s.rpc.cache r) = s.rpc.cache := by simp [hc]
  simp only [gapDrop, hcount, hkept, raiseGaps, satAdd, Nat.add_zero, Nat.min_eq_right hg]
  rfl

theorem emptyMap_assigned (slots : Nat) : (emptyMap slots).places.countP Option.isSome = 0 := by
  simp [emptyMap, List.countP_eq_zero]

/-- R143: an empty map comes into force where no rebuild has left a map. -/
theorem putInForce_first {r : NodeConfig} {s : State} (hc : s.cfl.config = some (clampConfig r))
    (hp : s.prm = State.reset.prm) (hn : s.clients = 0) (hs : s.rpc.streams = []) (hnext : s.sls.nextMap = none)
    (hreset : s.sls.resetPending = false) :
    putInForce s = s.withSls { s.sls with inForce := some (emptyMap s.slots) } := by
  have hcoming : comingMap s = emptyMap s.slots := by simp [comingMap, hreset, hnext]
  have hfollow : s.rpc.streams.map (Stream.follow (emptyMap s.slots)) = s.rpc.streams := by simp [hs]
  have hforce : { s.sls with inForce := some (emptyMap s.slots), nextMap := none, resetPending := false } =
      { s.sls with inForce := some (emptyMap s.slots) } := by rw [← hnext, ← hreset]
  have hsettled : recompute (s.withSls { s.sls with inForce := some (emptyMap s.slots) }) =
      s.withSls { s.sls with inForce := some (emptyMap s.slots) } :=
    recompute_fresh (r := r) hc hp hn (emptyMap_assigned s.slots)
  simp only [putInForce, hcoming, hforce, hsettled, State.withSls_rpc, hfollow]
  rfl

/-- R144: no slot of an empty map is assigned. -/
theorem handleSlot_emptyMap {n : Nat} {s : State} (h : s.sls.inForce = some (emptyMap n)) : handleSlot s = s := by
  refine handleSlot_unassigned ?_
  simp only [placeAt, h, Option.bind_some, emptyMap, List.getElem?_replicate]
  split_ifs <;> rfl

/-- Settles O6, by the blocks as the full reset left them. -/
theorem goodImageEntersListening : Obligations.GoodImageEntersListening := by
  intro b s hnode hlen hsum hformat hstation hlast hsection hseat hblock hcount hprm hast hrpc hsls hlane c
  have hexec : exec (.imageReadComplete b) s = .next (enterListening (readImage b) s) := by
    have hwhole : b.take imageLength = b := List.take_of_length_le hlen.le
    have hfault := imageFault_none hsum hformat hstation hlast hsection hseat hblock hcount
    simp only [exec, execImageReadComplete, hnode, hwhole, hfault]
    exact if_pos ⟨trivial, hlen.ge⟩
  let x := listeningState (readImage b) s
  have hclients : x.clients = 0 := by simp [x, listeningState, State.clients, hast, State.reset]
  have hfirst : recompute x = x :=
    recompute_fresh (r := readImage b) rfl hprm hclients (by simp [x, listeningState, State.assigned, hsls, State.reset])
  have hslot : startSlot 0 x = x.withSls { x.sls with slot := 0 } :=
    startSlot_clear hlane (by simp [x, listeningState, hsls, State.reset])
  let y := x.withSls { x.sls with slot := 0 }
  have hforce : putInForce y = y.withSls { y.sls with inForce := some (emptyMap y.slots) } :=
    putInForce_first (r := readImage b) rfl hprm hclients (by simp [x, y, listeningState, hrpc, State.reset])
      (by simp [x, y, listeningState, hsls, State.reset]) (by simp [x, y, listeningState, hsls, State.reset])
  let z := y.withSls { y.sls with inForce := some (emptyMap y.slots) }
  have hgap : gapDrop z = z := gapDrop_empty (by simp [x, y, z, listeningState, hrpc, State.reset])
    (by simp [x, y, z, listeningState, hrpc, State.reset])
  have hentered : enterListening (readImage b) s = z := calc
    enterListening (readImage b) s = startFrame (recompute x) := rfl
    _ = handleSlot (gapDrop (putInForce (startSlot 0 x))) := by rw [hfirst]; rfl
    _ = handleSlot z := by rw [hslot, hforce, hgap]
    _ = z := handleSlot_emptyMap rfl
  rw [hexec, hentered]
  rfl

end Sys2Proof.Machine
end

section
/-! Presentations that no seat entry decides, and the start of a remote claim (R95, R96, R98, R102 to R105, R114). -/
namespace Sys2Proof.Machine

/-! ## The answer and the fall (R41, R102) -/

/-- R41: the fall after a result has been placed. -/
theorem claimantFallback_placeOnLane {client : Nat} {r : Record} {s : State} (x : OutRecord) (hr : findRecord client s = some r)
    (hn : (s.ast.records.map Record.client).Nodup) (hs : r.subs.Nodup) :
    claimantFallback client (placeOnLane x s) = fellBack r (placeOnLane x s) :=
  claimantFallback_eq (by simpa only [findRecord, placeOnLane_ast] using hr) (by simpa only [placeOnLane_ast] using hn) hs

theorem refuseLocally_found {p : Presentation} {c : NodeConfig} {r : Record} {s : State} (code : CheckinCode) (n : Nat)
    (hc : s.cfl.config = some c) (hl : s.rsl.lane.length < 64) (h1 : s.hoe.backlog = []) (h2 : s.cku.backlog = [])
    (hr : findRecord p.client s = some r) (hn : (s.ast.records.map Record.client).Nodup) (hs : r.subs.Nodup) :
    refuseLocally p code n s =
      fellBack r (placeOnLane (.checkinResult p.client p.ticket p.seat code c.station n) s) := by
  rw [refuseLocally, placeLocalResult_lane hc hl h1 h2]
  exact claimantFallback_placeOnLane _ hr hn hs

/-- R96: what the checks of a presentation meet: a free lane, and the one record of the client, in which the presentation may
have changed anything but the client and the subscriptions. -/
theorem presented_meets {c : NodeConfig} {r x : Record} {p : Presentation} {body : List Byte} {rest : List LinkRecord} {s : State}
    (h : PresentationNext c r p body rest s) (ht : TableInv s) (hx : x.client = r.client) (hsubs : x.subs = r.subs) :
    let u := recordBecomes p.client x (requestGone rest s)
    u.rsl.lane.length < 64 ∧ findRecord p.client u = some x ∧ (u.ast.records.map Record.client).Nodup ∧ x.subs.Nodup := by
  obtain ⟨⟨-, -, ⟨hl, -⟩, -⟩, -, -, hr, -, hn⟩ := h
  obtain ⟨-, -, -, -, hrecords⟩ := ht
  obtain ⟨hmem, hrc⟩ := findRecord_mem hr
  have hxc : x.client = p.client := hx.trans hrc
  exact ⟨Nat.lt_of_lt_of_le (Nat.lt_add_of_pos_right (by omega)) hl,
    findRecord_recordBecomes (s := requestGone rest s) hr hxc,
    (recordBecomes_clients (requestGone rest s) hxc).symm ▸ hn, hsubs ▸ (hrecords r hmem).2.1⟩

theorem refuseLocally_presented {c : NodeConfig} {r x : Record} {p : Presentation} {body : List Byte} {rest : List LinkRecord}
    {s : State} (code : CheckinCode) (h : PresentationNext c r p body rest s) (ht : TableInv s) (hx : x.client = r.client)
    (hsubs : x.subs = r.subs) :
    let u := recordBecomes p.client x (requestGone rest s)
    refuseLocally p code 0 u = fellBack x (placeOnLane (.checkinResult p.client p.ticket p.seat code c.station 0) u) := by
  obtain ⟨⟨-, -, ⟨-, h1, h2, -⟩, -⟩, -, hc, -⟩ := id h
  obtain ⟨hl, hr, hn, hs⟩ := presented_meets h ht hx hsubs
  exact refuseLocally_found code 0 hc hl h1 h2 hr hn hs

/-! ## The checks (R96, R98) -/

theorem presentActive_claimed {c : NodeConfig} {r : Record} {p : Presentation} {s : State} (h : (findClaim p.client s).isSome) :
    presentActive c r p s = refuseLocally p .busy 0 s := if_pos h

theorem presentActive_lockedOut {c : NodeConfig} {r : Record} {p : Presentation} {s : State} (h : findClaim p.client s = none)
    (hb : r.badCodes = 4) : presentActive c r p s = refuseLocally p .lockedOut 0 s := by
  simp [presentActive, h, hb, badCodeLimit]

theorem presentActive_wrongSection {c : NodeConfig} {r : Record} {p : Presentation} {s : State}
    (h : findClaim p.client s = none) (hb : r.badCodes ≠ 4) (hsec : p.sectionId ≠ c.sectionId) :
    presentActive c r p s = refuseLocally p .wrongSection 0 s := by
  simp [presentActive, h, hb, hsec, badCodeLimit]

/-- R98: a bad check code is counted before the answer. -/
theorem presentActive_badCode {c : NodeConfig} {r : Record} {p : Presentation} {s : State} (h : findClaim p.client s = none)
    (hb : r.badCodes ≠ 4) (hsec : p.sectionId = c.sectionId) (hcode : ¬ CodeRight c p) :
    presentActive c r p s =
      refuseLocally p .badCode 0 (updateRecord p.client (fun r => { r with badCodes := satAdd 4 r.badCodes 1 }) s) := by
  have hwrong : checkCode c.siteKey p ≠ p.code := hcode
  simp [presentActive, h, hb, hsec, hwrong, badCodeLimit]

/-- R93: no entry decides a seat outside the block. -/
theorem ownerDecision_outside {client ticket serial q : Nat} {s : State} (h : seatEntry q s = none) :
    ownerDecision client ticket serial q s = none := by
  simp [ownerDecision, h]

theorem seatEntry_of_seatIndex_none {q : Nat} {s : State} (h : seatIndex q s = none) : seatEntry q s = none := by
  simp [seatEntry, h]

/-- R96: with the first four checks passed, a seat outside the block goes to its owner, or has none. -/
theorem presentActive_outside {c : NodeConfig} {r : Record} {p : Presentation} {s : State} (hp : ChecksPassed c r p s)
    (hq : seatIndex p.seat s = none) :
    presentActive c r p s = (if seatInSection p.seat then ownerOf p.seat s else none).elim
      (refuseLocally p .noOwner 0 s) fun owner => startClaim p owner s := by
  obtain ⟨hclaim, hbad, hsection, hcode⟩ := hp
  have hcode' : checkCode c.siteKey p = p.code := hcode
  simp only [presentActive, hclaim, Option.isSome_none, Bool.false_eq_true, if_false, badCodeLimit, hbad, hsection, ne_eq,
    not_true, hcode', ownerDecision_outside (seatEntry_of_seatIndex_none hq)]
  cases (if seatInSection p.seat then ownerOf p.seat s else none) <;> rfl

theorem seatInSection_iff {q : Nat} : seatInSection q = true ↔ 1 ≤ q ∧ q ≤ 4095 := by simp [seatInSection]

theorem presentActive_noOwner {c : NodeConfig} {r : Record} {p : Presentation} {s : State} (hp : ChecksPassed c r p s)
    (hq : seatIndex p.seat s = none) (ho : p.seat = 0 ∨ 4095 < p.seat ∨ ownerOf p.seat s = none) :
    presentActive c r p s = refuseLocally p .noOwner 0 s := by
  have hnone : (if seatInSection p.seat then ownerOf p.seat s else none) = none := by
    rw [ite_eq_right_iff, seatInSection_iff]
    rintro ⟨hlow, hhigh⟩
    exact (ho.resolve_left (by omega)).resolve_left (by omega)
  rw [presentActive_outside hp hq, hnone, Option.elim_none]

theorem presentActive_remote {c : NodeConfig} {r : Record} {p : Presentation} {a : Nat} {s : State} (hp : ChecksPassed c r p s)
    (hq : seatIndex p.seat s = none) (hlow : 1 ≤ p.seat) (hhigh : p.seat ≤ 4095) (ho : ownerOf p.seat s = some a) :
    presentActive c r p s = startClaim p a s := by
  rw [presentActive_outside hp hq, if_pos (seatInSection_iff.2 ⟨hlow, hhigh⟩), ho, Option.elim_some]

/-! ## A client that is not ACTIVE (R95) -/

theorem exec_presentTicket {p : Presentation} {body : List Byte} {rest : List LinkRecord} {s : State}
    (h : RequestNext 67 body rest s) (hb : readPresent body = some p) :
    exec .presentTicket s = .next (present p (requestGone rest s)) :=
  takeRequest_next readPresent present (by omega) h hb

/-- R95: a presentation of a client with no ACTIVE record, from the state in which its idle timer has been restarted. -/
theorem present_notAssociated {p : Presentation} {s x : State} (hx : restartIdle p.client s = x)
    (h : ∀ r, findRecord p.client x = some r → r.state ≠ .active) :
    present p s = placeLocalResult p .notAssociated 0 x := by
  subst hx
  unfold present
  dsimp only
  split
  · next r c hr hc => exact if_neg (h r hr)
  · rfl

/-- Settles O38, by the first check that fails. -/
theorem presentationRefused : Obligations.PresentationRefused := by
  intro p body rest s
  refine ⟨?_, ?_⟩
  · intro c r hnext htable r' u refused
    have hrefused : ∀ (x : Record) (code : CheckinCode), x.client = r.client → x.subs = r.subs →
        presentActive c r' p (recordBecomes p.client r' u) = refuseLocally p code 0 (recordBecomes p.client x u) →
        refused code x := fun x code hx hsubs hact =>
      (exec_presentTicket_active hnext).trans (congrArg _ (hact.trans (refuseLocally_presented code hnext htable hx hsubs)))
    obtain ⟨-, -, -, hr, -, hn⟩ := id hnext
    have hfound : findRecord p.client u = some r := hr
    have hrc : r'.client = p.client := (findRecord_mem hfound).2
    refine ⟨fun hclaim => hrefused r' .busy rfl rfl (presentActive_claimed hclaim),
      fun hclaim => ⟨fun hb => ?_, fun hb hsec => ?_, fun hb hsec hcode => ?_⟩,
      fun hp hq => ⟨fun ho => ?_, fun a hlow hhigh ho hfull => ?_⟩⟩
    · exact hrefused r' .lockedOut rfl rfl (presentActive_lockedOut hclaim hb)
    · exact hrefused r' .wrongSection rfl rfl (presentActive_wrongSection hclaim hb hsec)
    · have hcount : satAdd 4 r'.badCodes 1 = r.badCodes + 1 := min_eq_right hb
      refine hrefused { r' with badCodes := r.badCodes + 1 } .badCode rfl rfl
        ((presentActive_badCode (s := recordBecomes p.client r' u) hclaim (Nat.ne_of_lt hb) hsec hcode).trans ?_)
      rw [updateRecord_recordBecomes hfound hn hrc, hcount]
    · exact hrefused r' .noOwner rfl rfl (presentActive_noOwner hp hq ho)
    · exact hrefused r' .busy rfl rfl
        ((presentActive_remote (s := recordBecomes p.client r' u) hp hq hlow hhigh ho).trans (if_pos hfull))
  · intro c hnext hbody hc hn result
    obtain ⟨-, -, ⟨hl, h1, h2, -⟩, -⟩ := id hnext
    have hresult : ∀ x, restartIdle p.client (requestGone rest s) = x →
        (∀ r, findRecord p.client x = some r → r.state ≠ .active) → x.cfl = s.cfl → x.hoe = s.hoe → x.cku = s.cku →
        x.rsl.lane = s.rsl.lane → exec .presentTicket s = result x := by
      intro x hx hst hcfl hhoe hcku hlane
      rw [exec_presentTicket hnext hbody, present_notAssociated hx hst]
      exact congrArg _ (placeLocalResult_lane (by rw [hcfl, hc]) (by rw [hlane]; omega) (by rw [hhoe, h1]) (by rw [hcku, h2]))
    refine ⟨fun hr => ?_, fun r hr => ⟨fun hst => ?_, fun hst => ?_⟩⟩
    · have hru : findRecord p.client (requestGone rest s) = none := hr
      exact hresult _ (restartIdle_absent hru) (by simp [hru]) rfl rfl rfl rfl
    all_goals have hru : findRecord p.client (requestGone rest s) = some r := hr
    · refine hresult _ (restartIdle_served hru hn ((served_iff _).2 (.inr hst))) (fun x hx => ?_) rfl rfl rfl rfl
      have hfind := findRecord_recordBecomes (r' := { r with idle := some 120000 }) hru (findRecord_mem hr).2
      cases hfind.symm.trans hx
      rcases hst with hst | hst <;> simp [hst]
    · have hnot : ¬ r.state.served = true := by rcases hst with hst | hst | hst <;> simp [hst, RecordState.served]
      refine hresult _ (restartIdle_unserved hru hn hnot) (fun x hx => ?_) rfl rfl rfl rfl
      cases hru.symm.trans hx
      exact fun hactive => hnot ((served_iff _).2 (.inl hactive))

/-! ## The start of a remote claim (R103 to R105, R114) -/

/-- R104: a claim whose frame the RBC accepts. -/
theorem startClaim_accepted {p : Presentation} {a : Nat} {s : State} (hk : s.cku.claims.length < 8) (hj : s.cfl.node = .joined)
    (hr : s.rbc.urgent.length < 8) :
    startClaim p a s = (urgentSent a (.checkinClaim p.client p.ticket p.seat p.serial p.tier) s).withCku
      { s.cku with claims := s.cku.claims ++
        [{ client := p.client, ticket := p.ticket, seat := p.seat, owner := a, frame := .queued,
           tag := s.rbc.nextTag, timer := some 1500 }] } := by
  have hroom : ¬ claimLimit ≤ s.cku.claims.length := Nat.not_le.2 hk
  obtain ⟨hanswer, hqueue⟩ := queueFrame_urgent a (.checkinClaim p.client p.ticket p.seat p.serial p.tier) s hj rfl rfl hr
  rw [startClaim, if_neg hroom]
  simp only [hanswer, hqueue]
  rfl

/-- R104, R105: a claim whose frame the RBC refuses is OWNER_SILENT at once. -/
theorem startClaim_refused {p : Presentation} {a : Nat} {r : Record} {s : State} (hk : s.cku.claims.length < 8)
    (hl : s.rsl.lane.length < 64) (h1 : s.hoe.backlog = []) (h2 : s.cku.backlog = []) (hr : findRecord p.client s = some r)
    (hn : (s.ast.records.map Record.client).Nodup) (hs : r.subs.Nodup)
    (ha : queueAnswer a (.checkinClaim p.client p.ticket p.seat p.serial p.tier) s = none) :
    startClaim p a s = fellBack r (placeOnLane (.checkinResult p.client p.ticket p.seat .ownerSilent a 0)
      (queueFrame a (.checkinClaim p.client p.ticket p.seat p.serial p.tier) s)) := by
  have hroom : ¬ claimLimit ≤ s.cku.claims.length := Nat.not_le.2 hk
  rw [startClaim, if_neg hroom]
  simp only [ha]
  rw [placeOwnerResult, ckuPlace_lane _ (by simpa using hl) (by simpa using h1) (by simpa using h2)]
  exact claimantFallback_placeOnLane _ hr hn hs

/-- Settles O39, by the RBC's answer to the claim's frame. -/
theorem remoteClaimStarted : Obligations.RemoteClaimStarted := by
  intro c r p body rest a s hnext htable hp hq hlow hhigh ho hk r' u silent
  obtain ⟨⟨-, -, ⟨-, h1, h2, -⟩, -⟩, -⟩ := id hnext
  obtain ⟨hl, hr, hn, hs⟩ := presented_meets (x := r') hnext htable rfl rfl
  have hexec : exec .presentTicket s = .next (startClaim p a u) :=
    (exec_presentTicket_active hnext).trans (congrArg _ (presentActive_remote (s := u) hp hq hlow hhigh ho))
  have hsilent : ∀ x, queueAnswer a (.checkinClaim p.client p.ticket p.seat p.serial p.tier) u = none ∧
      queueFrame a (.checkinClaim p.client p.ticket p.seat p.serial p.tier) u = x → silent x := by
    rintro x ⟨hanswer, rfl⟩
    exact hexec.trans (congrArg _ (startClaim_refused hk hl h1 h2 hr hn hs hanswer))
  refine ⟨fun hj hroom => ?_, fun hj hfull => ?_, fun hm => ?_⟩
  · exact hexec.trans (congrArg _ (startClaim_accepted hk hj hroom))
  · exact hsilent _ (queueFrame_urgent_full a _ u hj rfl rfl hfull)
  · have hnot : u.cfl.node ≠ .joined := fun hj => by cases hm.symm.trans hj
    exact hsilent u (queueFrame_not_joined a _ u hnot).symm

end Sys2Proof.Machine
end

section
/-! The owner's decision on a CHECKIN_CLAIM (R99 to R101, R109). -/
namespace Sys2Proof.Machine

theorem exec_checkinClaim {source : Nat} {p : ClaimPayload} {f : BusFrame} {s : State} (h : FrameTaken 9 source f s)
    (hr : readClaim f.payload = some p) :
    exec (.checkinClaim f) s = .next (takeClaim source f.dest.toNat p (carrierEnded s)) := by
  have hroute : route 9#8 source f.dest.toNat f.payload (carrierEnded s) =
      takeClaim source f.dest.toNat p (carrierEnded s) := by
    simp [route, hr]
  exact congrArg Host.Outcome.next ((receive_taken h).trans hroute)

/-- R99: the decision on an ISSUED entry. -/
theorem decideSeat_issued (client ticket serial : Nat) (t : Ticket) :
    decideSeat client ticket serial (.issued t) =
      if t.number = ticket ∧ t.serial = serial then .checkIn t else .notCurrent := by
  simp only [decideSeat, presented_iff]

/-- R99: the decision on a CHECKED_IN entry. -/
theorem decideSeat_checkedIn (client ticket serial : Nat) (t : Ticket) (holder time : Nat) :
    decideSeat client ticket serial (.checkedIn t holder time) =
      if t.number = ticket ∧ t.serial = serial then if holder = client then .again else .duplicate t holder
      else .notCurrent := by
  simp only [decideSeat, Bool.not_eq_true', ← Bool.not_eq_true, presented_iff, ite_not]

/-- R109: a claim for a seat that the node does not own. -/
theorem takeClaim_noOwner {source dest : Nat} {p : ClaimPayload} {s : State} (hj : s.cfl.node = .joined)
    (hd : dest = s.station) (he : seatEntry p.seat s = none) :
    takeClaim source dest p s = urgentOffered source (.checkinVerdict p.client p.ticket p.seat .noOwner 0) s := by
  rw [takeClaim, if_pos ⟨hj, hd⟩, ownerDecision_outside he]
  exact queueFrame_urgent_eq _ _ _ rfl

/-- R109: a claim for a seat of the block is decided by its entry; the verdict comes behind the decision's own frames. -/
theorem takeClaim_entry {source dest i : Nat} {p : ClaimPayload} {e : SeatEntry} {s : State} (hj : s.cfl.node = .joined)
    (hd : dest = s.station) (hi : seatIndex p.seat s = some i) (he : s.ens.seats[i]? = some e) :
    let d := decideSeat p.client p.ticket p.serial e.standing
    let x := applyDecision p.client p.seat d s
    takeClaim source dest p s =
      urgentOffered source (.checkinVerdict p.client p.ticket p.seat d.verdict (verdictCount p.seat d x)) x := by
  rw [takeClaim, if_pos ⟨hj, hd⟩, ownerDecision_entry hi he]
  exact queueFrame_urgent_eq _ _ _ rfl

/-- Settles O40, by the entry of the seat. -/
theorem checkinClaimDecided : Obligations.CheckinClaimDecided := by
  intro source p f s htaken hread u verdict
  have hexec := exec_checkinClaim htaken hread
  refine ⟨fun hno => ?_, fun hj hd => ⟨fun hnone => ?_, fun i hi e he => ?_⟩⟩
  · exact hexec.trans (congrArg _ (if_neg (not_and_or.2 hno)))
  · exact hexec.trans (congrArg _ (takeClaim_noOwner (s := u) hj hd hnone))
  intro entry presented
  have hdecided : ∀ d x n, decideSeat p.client p.ticket p.serial e.standing = d →
      applyDecision p.client p.seat d u = x → verdictCount p.seat d x = n → verdict d.verdict n x := by
    rintro d x n rfl rfl rfl
    exact hexec.trans (congrArg _ (takeClaim_entry (s := u) hj hd hi he))
  refine ⟨fun hst => ?_, fun t hst => ?_, fun t hst => ⟨fun ht => ?_, fun ht => ?_⟩,
    fun t holder time hst => ⟨fun ht => ?_, fun ht hh => ?_, fun ht hh => ?_⟩⟩
  · exact hdecided .unknownSeat u 0 (by rw [hst]; rfl) rfl rfl
  · exact hdecided .voided u 0 (by rw [hst]; rfl) rfl rfl
  · exact hdecided .notCurrent u 0 (by rw [hst, decideSeat_issued, if_neg ht]) rfl rfl
  · refine hdecided (.checkIn t) _ 0 (by rw [hst, decideSeat_issued, if_pos ht]) ?_ rfl
    rw [applyDecision_checkIn (s := u) hi he, ht.1]
    rfl
  · exact hdecided .notCurrent u 0 (by rw [hst, decideSeat_checkedIn, if_neg ht]) rfl rfl
  · exact hdecided .again u 0 (by rw [hst, decideSeat_checkedIn, if_pos ht, if_pos hh]) rfl rfl
  · refine hdecided (.duplicate t holder) _ _ (by rw [hst, decideSeat_checkedIn, if_pos ht, if_neg hh]) ?_ ?_
    · rw [applyDecision_duplicate (s := u) hi he, ht.1]
      rfl
    · have hcount := verdictCount_duplicate (client := p.client) (holder := holder) (t := t) (s := u) hi he
      rw [applyDecision_duplicate (s := u) hi he, ht.1] at hcount
      exact hcount

end Sys2Proof.Machine
end

section
/-! The start of a middle slot (R144, R150). -/
namespace Sys2Proof.Machine

/-- Settles O50: the start of the next slot discards what the ending one left unsent, and then that slot is handled. -/
theorem slotStartEmits : Obligations.SlotStartEmits := by
  intro s hrun hslot kept u
  have hexec : exec .slotStart s = .next (handleSlot u) := if_pos ⟨hrun, hslot⟩
  refine ⟨fun m hm hplace => ?_, fun hk => handleSlot_handled hk hexec⟩
  have hat : placeAt u.sls.slot u = none := by
    change (s.sls.inForce.bind fun m => m.places[s.sls.slot + 1]?).join = none
    rw [hm, Option.bind_some]
    exact hplace.elim (congrArg Option.join) (congrArg Option.join)
  rw [hexec, handleSlot_unassigned hat]

end Sys2Proof.Machine
end

section
/-! STREAM_ANNOUNCE: the stream table by the first row of R117 that fits (R118 to R122). -/
namespace Sys2Proof.Machine

/-! ## Lists whose keys are apart (R116, R127) -/

/-- The entry of a key taken out of a list: what stood before and behind it stays. -/
theorem filter_key_ne {α β : Type} [DecidableEq β] (key : α → β) {pre post : List α} {v : α}
    (h : ((pre ++ v :: post).map key).Nodup) :
    (pre ++ v :: post).filter (fun x => key x ≠ key v) = pre ++ post := by
  have hnot : key v ∉ (pre ++ post).map key :=
    (List.nodup_cons.1 ((List.perm_middle.map key).nodup_iff.1 h)).1
  have hall : ∀ x ∈ pre ++ post, key x ≠ key v := fun x hx he => hnot (he ▸ List.mem_map_of_mem hx)
  rw [List.filter_append, List.filter_cons_of_neg (by simp), ← List.filter_append]
  exact List.filter_eq_self.2 fun x hx => by simpa using hall x hx

/-- A change of the entry of a key is a change of that one entry. -/
theorem map_key_eq {α β : Type} [DecidableEq β] (key : α → β) (f : α → α) {l : List α} {v : α} (h : (l.map key).Nodup)
    (hv : v ∈ l) : (l.map fun x => if key x = key v then f x else x) = l.map fun x => if key x = key v then f v else x := by
  refine List.map_congr_left fun x hx => ?_
  split
  · next hk => rw [List.inj_on_of_nodup_map h hx hv hk]
  · rfl

/-! ## The stream table -/

/-- R116: a change of a stream's entry is a change of the one entry of its id. -/
theorem updateStream_found {id : Nat} {st : Stream} {s : State} (hn : (s.rpc.streams.map Stream.id).Nodup)
    (h : findStream id s = some st) (f : Stream → Stream) :
    updateStream id f s =
      s.withRpc { s.rpc with streams := s.rpc.streams.map fun x => if x.id = id then f st else x } := by
  obtain ⟨hmem, rfl⟩ := findStream_mem h
  rw [updateStream, map_key_eq Stream.id f hn hmem]

/-- R122: a removal does not depend on what the entry held. -/
theorem removeStream_updateStream (id : Nat) {f : Stream → Stream} (hf : ∀ st, (f st).id = st.id) (s : State) :
    removeStream id (updateStream id f s) = streamGone id s := by
  have hfilter : (s.rpc.streams.map fun x => if x.id = id then f x else x).filter (fun x => x.id ≠ id) =
      s.rpc.streams.filter fun x => x.id ≠ id := by
    rw [List.filter_map, List.filter_congr (q := fun x => x.id ≠ id)]
    · refine (List.map_congr_left fun x hx => if_neg ?_).trans (List.map_id _)
      simpa using List.of_mem_filter hx
    · intro x _
      by_cases hx : x.id = id <;> simp [hx, hf]
  rw [removeStream_eq, streamGone]
  simp only [updateStream, State.withRpc_rpc, hfilter]
  rfl

/-- R121: the withdrawal of a stream in the middle of a segment. -/
theorem withdrawStream_midSegment {id : Nat} {st : Stream} {s : State} (hn : (s.rpc.streams.map Stream.id).Nodup)
    (h : findStream id s = some st) (hm : st.cursor.current.isSome) :
    withdrawStream id s = s.withRpc { s.rpc with
      streams := s.rpc.streams.map fun x => if x.id = id then { st with withdrawn := true, state := .draining } else x } := by
  have hid := (findStream_mem h).2
  rw [withdrawStream, h]
  simp only [Stream.midSegment, hm, if_true]
  rw [updateStream_found hn h]
  simp only [updateStream, State.withRpc_rpc, State.withRpc_twice, List.map_map]
  congr 2
  refine List.map_congr_left fun x _ => ?_
  by_cases hx : x.id = id <;> simp [hx, hid]

/-- R121, R122: the withdrawal of a stream with no current segment. -/
theorem withdrawStream_between {id : Nat} {st : Stream} {s : State} (h : findStream id s = some st)
    (hm : st.cursor.current = none) : withdrawStream id s = streamGone id s := by
  rw [withdrawStream, h]
  simp only [Stream.midSegment, hm, Option.isSome_none, Bool.false_eq_true, if_false]
  exact removeStream_updateStream id (f := fun st => { st with withdrawn := true }) (fun _ => rfl) s

/-- R120: an entry may be replaced when it is IDLE, not withdrawn, without subscribers and without segment records. -/
theorem replaceable_iff (s : State) (st : Stream) :
    replaceable s st = true ↔ st.state = .idle ∧ st.withdrawn = false ∧ st.subscribers = 0 ∧
      ∀ g ∈ s.rpc.cache, g.stream ≠ st.id := by
  simp [replaceable, and_assoc]

/-! ## The rows of R117 -/

section Rows

variable {a : Announce} {s : State} (hh : s.hearing = true)

include hh

theorem takeAnnounce_reported (hr : a.id ∈ s.rpc.endReports) : takeAnnounce a s = s := by
  simp [takeAnnounce, hh, hr]

theorem takeAnnounce_known {st : Stream} (hr : a.id ∉ s.rpc.endReports) (hst : findStream a.id s = some st) :
    takeAnnounce a s =
      if st.withdrawn then s
      else if a.demand = 0 then withdrawStream a.id s
      else s.withRpc { s.rpc with streams := (s.rpc.streams.filter fun x => x.id ≠ a.id) ++ [st.updated a] } := by
  simp [takeAnnounce, hh, hr, hst]

theorem takeAnnounce_noDemand (hr : a.id ∉ s.rpc.endReports) (hst : findStream a.id s = none) (hd : a.demand = 0) :
    takeAnnounce a s = s := by
  simp [takeAnnounce, hh, hr, hst, hd]

theorem takeAnnounce_added (hr : a.id ∉ s.rpc.endReports) (hst : findStream a.id s = none) (hd : a.demand ≠ 0)
    (hroom : s.rpc.streams.length + s.rpc.endReports.length < 8) : takeAnnounce a s = addStream a s := by
  simp [takeAnnounce, hh, hr, hst, hd, streamPlaces, hroom]

theorem takeAnnounce_refused (hr : a.id ∉ s.rpc.endReports) (hst : findStream a.id s = none) (hd : a.demand ≠ 0)
    (hfull : 8 ≤ s.rpc.streams.length + s.rpc.endReports.length) (hno : s.rpc.streams.find? (replaceable s) = none) :
    takeAnnounce a s = raise .streamTableFull s := by
  simp [takeAnnounce, hh, hr, hst, hd, streamPlaces, Nat.not_lt.2 hfull, hno]

theorem takeAnnounce_replaced {old : Stream} (hr : a.id ∉ s.rpc.endReports) (hst : findStream a.id s = none)
    (hd : a.demand ≠ 0) (hfull : 8 ≤ s.rpc.streams.length + s.rpc.endReports.length)
    (hold : s.rpc.streams.find? (replaceable s) = some old) :
    takeAnnounce a s =
      addStream a (s.withRpc { s.rpc with streams := s.rpc.streams.filter fun x => x.id ≠ old.id }) := by
  simp [takeAnnounce, hh, hr, hst, hd, streamPlaces, Nat.not_lt.2 hfull, hold]

end Rows

theorem exec_streamAnnounce {source : Nat} {a : Announce} {f : BusFrame} {s : State} (h : FrameTaken 36 source f s)
    (hr : readAnnounce f.payload = some a) : exec (.streamAnnounce f) s = .next (takeAnnounce a (carrierEnded s)) := by
  have hroute : route 36#8 source f.dest.toNat f.payload (carrierEnded s) = takeAnnounce a (carrierEnded s) := by
    simp [route, hr]
  exact congrArg Host.Outcome.next ((receive_taken h).trans hroute)

/-- Settles O48, by the rows of R117. -/
theorem announceDecided : Obligations.AnnounceDecided := by
  intro source a f s htaken hread hh hn u table fresh mayGo
  have hexec : ∀ x, takeAnnounce a u = x → exec (.streamAnnounce f) s = .next x :=
    fun x hx => (exec_streamAnnounce htaken hread).trans (congrArg _ hx)
  refine ⟨fun hr => hexec _ (takeAnnounce_reported (s := u) hh hr), fun hr => ⟨fun st hst => ?_, fun hnone => ?_⟩⟩
  · have hknown := takeAnnounce_known (s := u) hh hr hst
    refine ⟨fun hw => ?_, fun hw hd => ?_, fun hw hd hm => ?_, fun hw hd hm => ?_⟩ <;> refine hexec _ (hknown.trans ?_)
    · rw [if_pos hw]
    · rw [if_neg (by simp [hw]), if_neg hd]
      rfl
    · rw [if_neg (by simp [hw]), if_pos hd]
      exact withdrawStream_midSegment (s := u) hn hst hm
    · rw [if_neg (by simp [hw]), if_pos hd]
      exact withdrawStream_between (s := u) hst hm
  · refine ⟨fun hd => hexec _ (takeAnnounce_noDemand (s := u) hh hr hnone hd),
      fun hd hroom => hexec _ (takeAnnounce_added (s := u) hh hr hnone hd hroom), fun hd hfull => ⟨fun hstay => ?_, ?_⟩⟩
    · exact hexec _ (takeAnnounce_refused (s := u) hh hr hnone hd hfull
        (List.find?_eq_none.2 fun x hx hrep => hstay x hx ((replaceable_iff u x).1 hrep)))
    · intro pre old post hl hpre hold
      have hfind : u.rpc.streams.find? (replaceable u) = some old :=
        List.find?_eq_some_iff_append.2 ⟨(replaceable_iff u old).2 hold, pre, post, hl, fun x hx => by
          simpa using fun hrep => hpre x hx ((replaceable_iff u x).1 hrep)⟩
      have hleft : (u.rpc.streams.filter fun x => x.id ≠ old.id) = pre ++ post := by
        rw [show u.rpc.streams = pre ++ old :: post from hl]
        exact filter_key_ne Stream.id (hl ▸ hn)
      refine hexec _ ((takeAnnounce_replaced (s := u) hh hr hnone hd hfull hfind).trans ?_)
      rw [hleft]
      rfl

end Sys2Proof.Machine
end

section
/-! REPLAY_RESET: the DRAINING streams finish, and cache and cursors are emptied (R126, R151). -/
namespace Sys2Proof.Machine

/-! ## The DRAINING streams (R126) -/

/-- R116: a stream of the table is the one found for its id. -/
theorem findStream_of_mem {st : Stream} {s : State} (hn : (s.rpc.streams.map Stream.id).Nodup) (h : st ∈ s.rpc.streams) :
    findStream st.id s = some st := by
  obtain ⟨x, hx⟩ := Option.isSome_iff_exists.1 ((findStream_isSome st.id s).2 ⟨st, h, rfl⟩)
  obtain ⟨hmem, hid⟩ := findStream_mem hx
  rw [hx, List.inj_on_of_nodup_map hn hmem h hid]

/-- R126: a DRAINING stream that is not withdrawn has finished. -/
def Stream.finished (st : Stream) : Stream := { st with state := .idle, wantedSince := none }

/-- The withdrawn streams of a list, by their ids. -/
def withdrawnIds (l : List Stream) : List Nat := (l.filter Stream.withdrawn).map Stream.id

/-- R126: the table once the streams of `l` have finished: the withdrawn ones are out of it, the others are IDLE. -/
def streamsFinished (l table : List Stream) : List Stream :=
  (table.filter fun x => x.id ∉ withdrawnIds l).map fun x => if x.id ∈ l.map Stream.id then x.finished else x

/-- R126: the streams of a list have finished. -/
def drainingFinished (l : List Stream) (s : State) : State :=
  (s.withAst { s.ast with
    records := s.ast.records.map fun r => { r with subs := r.subs.filter fun x => x ∉ withdrawnIds l } }).withRpc
    { s.rpc with
      streams := streamsFinished l s.rpc.streams
      cache := s.rpc.cache.filter fun g => g.stream ∉ withdrawnIds l
      endReports := s.rpc.endReports ++ withdrawnIds l }

/-- What is left of a list without some keys, once one key more is taken out. -/
theorem filter_key_next {α : Type} (key : α → Nat) (xs : List α) (ids : List Nat) (id : Nat) :
    (xs.filter fun x => key x ∉ ids).filter (fun x => key x ≠ id) = xs.filter fun x => key x ∉ ids ++ [id] := by
  rw [List.filter_filter]
  exact List.filter_congr fun x _ => by simp [and_comm]

theorem withdrawnIds_append (l : List Stream) (st : Stream) :
    withdrawnIds (l ++ [st]) = if st.withdrawn then withdrawnIds l ++ [st.id] else withdrawnIds l := by
  cases h : st.withdrawn <;> simp [withdrawnIds, h]

theorem withdrawnIds_subset (l : List Stream) : ∀ id ∈ withdrawnIds l, id ∈ l.map Stream.id :=
  fun _ h => List.map_subset _ (List.filter_subset_self _) h

theorem streamsFinished_ids (l table : List Stream) :
    (streamsFinished l table).map Stream.id = (table.filter fun x => x.id ∉ withdrawnIds l).map Stream.id := by
  rw [streamsFinished, List.map_map]
  refine List.map_congr_left fun x _ => ?_
  simp only [Function.comp]
  split <;> rfl

/-- A stream that is not in the list is still there, as it was, when those of the list have finished. -/
theorem findStream_drainingFinished {l : List Stream} {st : Stream} {s : State}
    (hn : (s.rpc.streams.map Stream.id).Nodup) (h : st ∈ s.rpc.streams) (hl : st.id ∉ l.map Stream.id) :
    findStream st.id (drainingFinished l s) = some st := by
  have hids : (streamsFinished l s.rpc.streams).map Stream.id |>.Nodup := by
    rw [streamsFinished_ids]
    exact hn.sublist (List.filter_sublist.map _)
  have hmem : st ∈ streamsFinished l s.rpc.streams := by
    refine List.mem_map.2 ⟨st, List.mem_filter.2 ⟨h, ?_⟩, if_neg hl⟩
    simpa using fun hw => hl (withdrawnIds_subset l _ hw)
  exact findStream_of_mem (s := drainingFinished l s) hids hmem

theorem streamsFinished_append_idle {l table : List Stream} {st : Stream} (hw : st.withdrawn = false)
    (hl : st.id ∉ l.map Stream.id) :
    (streamsFinished l table).map (fun x => if x.id = st.id then x.finished else x) =
      streamsFinished (l ++ [st]) table := by
  simp only [streamsFinished, withdrawnIds_append, hw, Bool.false_eq_true, if_false, List.map_map]
  refine List.map_congr_left fun x _ => ?_
  simp only [Function.comp, List.map_append, List.map_cons, List.map_nil, List.mem_append, List.mem_singleton]
  by_cases hx : x.id = st.id
  · simp [hx, hl]
  · by_cases hm : x.id ∈ l.map Stream.id
    · simp only [hm, hx, if_true, true_or]
      exact if_neg hx
    · simp only [hm, hx, if_false, or_self]

theorem streamsFinished_append_gone {l table : List Stream} {st : Stream} (hw : st.withdrawn = true) :
    (streamsFinished l table).filter (fun x => x.id ≠ st.id) = streamsFinished (l ++ [st]) table := by
  have htest : ((fun x : Stream => decide (x.id ≠ st.id)) ∘ fun x => if x.id ∈ l.map Stream.id then x.finished else x) =
      fun x => decide (x.id ≠ st.id) := by
    funext x
    simp only [Function.comp]
    split <;> rfl
  simp only [streamsFinished, withdrawnIds_append, hw, if_true, List.filter_map, htest, filter_key_next Stream.id]
  refine List.map_congr_left fun x hx => ?_
  have hne : x.id ≠ st.id := by
    have hout := List.of_mem_filter hx
    simp only [List.mem_append, List.mem_singleton, not_or, decide_eq_true_eq] at hout
    exact hout.2
  simp [hne]

/-- R126: one DRAINING stream more finishes. -/
theorem finishDraining_next {l : List Stream} {st : Stream} {s : State} (hn : (s.rpc.streams.map Stream.id).Nodup)
    (h : st ∈ s.rpc.streams) (hl : st.id ∉ l.map Stream.id) :
    finishDraining st.id (drainingFinished l s) = drainingFinished (l ++ [st]) s := by
  have hids := withdrawnIds_append l st
  rw [finishDraining, findStream_drainingFinished hn h hl]
  cases hw : st.withdrawn
  · have hstreams := streamsFinished_append_idle (table := s.rpc.streams) hw hl
    simp only [hw, Bool.false_eq_true, if_false] at hids ⊢
    simp only [drainingFinished, hids, ← hstreams]
    rfl
  · have hstreams := streamsFinished_append_gone (l := l) (table := s.rpc.streams) hw
    simp only [hw, if_true] at hids ⊢
    have hrecords : ((drainingFinished l s).ast.records.map fun r => { r with subs := r.subs.filter fun x => x ≠ st.id }) =
        s.ast.records.map fun r => { r with subs := r.subs.filter fun x => x ∉ withdrawnIds l ++ [st.id] } := by
      refine List.map_map.trans (List.map_congr_left fun r _ => ?_)
      simp only [Function.comp, filter_key_next fun x => x]
    have hcache := filter_key_next SegmentRecord.stream s.rpc.cache (withdrawnIds l) st.id
    simp only [removeStream_eq, streamGone, hrecords]
    simp only [drainingFinished, hids, ← hstreams, ← hcache, ← List.append_assoc]
    rfl

/-- R151, step 1: all the DRAINING streams finish. -/
theorem foldl_finishDraining {l : List Stream} {s : State} (hn : (s.rpc.streams.map Stream.id).Nodup)
    (hl : l.Sublist s.rpc.streams) :
    (l.map Stream.id).foldl (fun s id => finishDraining id s) s = drainingFinished l s := by
  induction l using List.reverseRecOn with
  | nil =>
    simp [drainingFinished, streamsFinished, withdrawnIds]
    rfl
  | append_singleton l st ih =>
    have hnot : st.id ∉ l.map Stream.id := by
      have happart := hn.sublist (hl.map _)
      rw [List.map_append, List.nodup_append'] at happart
      simpa using happart.2.2
    rw [List.map_append, List.foldl_append, ih ((List.sublist_append_left _ _).trans hl)]
    exact finishDraining_next hn (hl.subset (by simp)) hnot

/-! ## The reset (R151) -/

theorem execReplayReset_next {rest : List LinkRecord} {s : State} (h : RequestNext 70 [] rest s) :
    exec .replayReset s = .next (replayReset (requestGone rest s)) :=
  takeRequest_next readNothing (fun _ => replayReset) (by decide) h rfl

/-- R151, step 1: the table once all its DRAINING streams have finished. -/
theorem streamsFinished_drains {table : List Stream} (hn : (table.map Stream.id).Nodup) :
    streamsFinished (table.filter Stream.drains) table =
      (table.filter fun st => !(st.state == .draining && st.withdrawn)).map fun st =>
        if st.state = .draining then st.finished else st := by
  have hone : ∀ x ∈ table, ∀ test : Stream → Bool, x.id ∈ (table.filter test).map Stream.id ↔ test x = true := by
    intro x hx test
    refine ⟨fun h => ?_, fun h => List.mem_map_of_mem (List.mem_filter.2 ⟨hx, h⟩)⟩
    obtain ⟨y, hy, hid⟩ := List.mem_map.1 h
    obtain ⟨hy, ht⟩ := List.mem_filter.1 hy
    rwa [← List.inj_on_of_nodup_map hn hy hx hid]
  have hgone : ∀ x ∈ table, x.id ∈ withdrawnIds (table.filter Stream.drains) ↔ (x.withdrawn && x.drains) = true := by
    intro x hx
    rw [withdrawnIds, List.filter_filter]
    exact hone x hx _
  have hleft : (table.filter fun x => x.id ∉ withdrawnIds (table.filter Stream.drains)) =
      table.filter fun st => !(st.state == .draining && st.withdrawn) := by
    refine List.filter_congr fun x hx => ?_
    simp only [hgone x hx, Bool.and_comm x.withdrawn, Bool.decide_eq_true, decide_not]
    rfl
  rw [streamsFinished, hleft]
  refine List.map_congr_left fun x hx => ?_
  have hdrains : x.drains = true ↔ x.state = .draining := beq_iff_eq
  simp only [hone x (List.mem_of_mem_filter hx), hdrains]

/-- Settles O53: the streams finish one after another, and what is left of the table begins anew. -/
theorem replayResetClears : Obligations.ReplayResetClears := by
  intro rest s hnext hn u
  have hexec := execReplayReset_next hnext
  refine ⟨fun hh => ?_, fun hh => ?_⟩
  · have hu : (requestGone rest s).hearing = false := hh
    exact hexec.trans (congrArg _ (if_neg (by simp [hu])))
  intro ends gone
  have hgone : withdrawnIds (s.rpc.streams.filter Stream.drains) = gone := by
    rw [withdrawnIds, List.filter_filter]
    exact congrArg _ (List.filter_congr fun x _ => Bool.and_comm _ _)
  have hstreams : (streamsFinished (s.rpc.streams.filter Stream.drains) s.rpc.streams).map Stream.restarted =
      (s.rpc.streams.filter fun st => !ends st).map fun st =>
        { st with
          cursor := { current := none, nextIndex := 0, lastEmitted := none, lastSent := none }
          underruns := 0
          wantedSince := if st.state = .draining then none else st.wantedSince
          state := if 0 < st.subscribers then .wanted
            else if st.state = .draining then .idle else st.state } := by
    rw [streamsFinished_drains hn, List.map_map]
    refine List.map_congr_left fun x _ => ?_
    simp only [Function.comp]
    split <;> rfl
  refine hexec.trans (congrArg _ ((if_pos hh).trans ?_))
  rw [finishAllDraining, foldl_finishDraining (s := u) hn List.filter_sublist, ← hstreams, ← hgone]
  rfl

end Sys2Proof.Machine
end

section
/-! SEGMENT frames: the form of a chunk, its record, and the victim of a full cache (R129 to R133). -/
namespace Sys2Proof.Machine

/-! ## The form of a chunk and the record it makes (R129, R131, R132) -/

theorem Chunk.fits_iff (count length : Nat) (c : Chunk) :
    c.fits count length = true ↔ c.count = count ∧ c.index < count ∧ c.payload.length = length := by
  simp [Chunk.fits, and_assoc]

/-- R131, R127: the state of a completed record, by the distance of its sequence. -/
theorem completedState_eq (lastSent : Option Nat) (q : Nat) :
    completedState lastSent q = match lastSent with
      | some t =>
        if 1 ≤ (q + (65536 - t % 65536)) % 65536 ∧ (q + (65536 - t % 65536)) % 65536 ≤ 32767 then .complete else .spent
      | none => .complete := by
  cases lastSent with
  | none => rfl
  | some t => exact if_congr (by simp only [seqAhead, Bool.and_eq_true, decide_eq_true_eq]; rfl) rfl rfl

/-- R132: the record that a first chunk makes. -/
theorem newSegment_eq (st : Stream) (c : Chunk) :
    newSegment st c =
      { stream := c.stream, sequence := c.sequence, stamp := c.stamp, count := st.chunks, length := st.chunkLength,
        chunks := [(c.index, c.payload)],
        state := if st.chunks = 1 then completedState st.cursor.lastSent c.sequence else .filling } := by
  simp [newSegment, SegmentRecord.take, chunkAt, storeChunk, eq_comm]

/-- R130, R131: a FILLING record takes a chunk that it does not hold. -/
theorem SegmentRecord.take_missing {lastSent : Option Nat} {c : Chunk} {r : SegmentRecord} (hs : r.state = .filling)
    (hc : chunkAt c.index r.chunks = none) :
    r.take lastSent c = { r with
      chunks := storeChunk c.index c.payload r.chunks
      state := if r.chunks.length + 1 = r.count then completedState lastSent r.sequence else .filling } := by
  simp [SegmentRecord.take, hs, hc, storeChunk_length _ _ _ hc]

/-- R130: any other chunk is ignored. -/
theorem SegmentRecord.take_ignored {lastSent : Option Nat} {c : Chunk} {r : SegmentRecord}
    (h : r.state ≠ .filling ∨ (chunkAt c.index r.chunks).isSome) : r.take lastSent c = r := if_pos h

/-- R130: the chunks of a record after a store. -/
theorem chunkAt_stored {i : Nat} {p : List Byte} {l : List (Nat × List Byte)} (h : chunkAt i l = none) (k : Nat) :
    chunkAt k (storeChunk i p l) = if k = i then some p else chunkAt k l := by
  split
  · next hk => rw [hk, chunkAt_storeChunk i p l h]
  · next hk => exact chunkAt_storeChunk_other i k p l hk

/-! ## The segment cache (R127) -/

theorem findSegment_mem {stream q : Nat} {r : SegmentRecord} {s : State} (h : findSegment stream q s = some r) :
    r ∈ s.rpc.cache ∧ r.stream = stream ∧ r.sequence = q :=
  ⟨List.mem_of_find?_eq_some h, by simpa using List.find?_some h⟩

/-- R127: a change of a segment record is a change of the one record of its stream and sequence. -/
theorem updateSegment_found {stream q : Nat} {r : SegmentRecord} {s : State}
    (hk : (s.rpc.cache.map fun r => (r.stream, r.sequence)).Nodup) (h : findSegment stream q s = some r)
    (f : SegmentRecord → SegmentRecord) :
    updateSegment stream q f s = s.withRpc { s.rpc with
      cache := s.rpc.cache.map fun x => if x.stream = stream ∧ x.sequence = q then f r else x } := by
  obtain ⟨hmem, rfl, rfl⟩ := findSegment_mem h
  have hkey := map_key_eq (fun x : SegmentRecord => (x.stream, x.sequence)) f hk hmem
  simp only [Prod.mk.injEq] at hkey
  rw [updateSegment, hkey]

/-- A change that leaves the record as it was leaves the state as it was. -/
theorem updateSegment_same {stream q : Nat} {r : SegmentRecord} {s : State}
    (hk : (s.rpc.cache.map fun r => (r.stream, r.sequence)).Nodup) (h : findSegment stream q s = some r)
    {f : SegmentRecord → SegmentRecord} (hf : f r = r) : updateSegment stream q f s = s := by
  obtain ⟨hmem, rfl, rfl⟩ := findSegment_mem h
  have hsame : (s.rpc.cache.map fun x => if x.stream = r.stream ∧ x.sequence = r.sequence then f r else x) = s.rpc.cache := by
    refine (List.map_congr_left fun x hx => ?_).trans (List.map_id _)
    split
    · next he => rw [hf, List.inj_on_of_nodup_map hk hx hmem (Prod.ext he.1 he.2), id]
    · rfl
  rw [updateSegment_found hk h, hsame]
  rfl

theorem freeSegment_eq (stream q : Nat) (s : State) :
    freeSegment stream q s = s.withRpc { s.rpc with
      cache := s.rpc.cache.filter fun x => ¬ (x.stream = stream ∧ x.sequence = q) } := by
  rw [freeSegment, List.filter_congr fun x _ => ?_]
  rw [Bool.eq_iff_iff]
  simp [imp_iff_not_or]

/-- The freeing of one record of the cache leaves those before and behind it. -/
theorem freeSegment_split {pre post : List SegmentRecord} {v : SegmentRecord} {s : State}
    (hk : (s.rpc.cache.map fun r => (r.stream, r.sequence)).Nodup) (h : s.rpc.cache = pre ++ v :: post) :
    freeSegment v.stream v.sequence s = s.withRpc { s.rpc with cache := pre ++ post } := by
  rw [h] at hk
  rw [freeSegment_eq, h, ← filter_key_ne _ hk]
  simp only [ne_eq, Prod.mk.injEq]

/-- A freed record leaves a place in a cache of at most 64. -/
theorem freeSegment_room {stream q : Nat} {r : SegmentRecord} {s : State} (h : findSegment stream q s = some r)
    (hl : s.rpc.cache.length ≤ 64) : (freeSegment stream q s).rpc.cache.length < 64 := by
  obtain ⟨hmem, hstream, hq⟩ := findSegment_mem h
  refine Nat.lt_of_lt_of_le (List.length_filter_lt_length_iff_exists.2 ⟨r, hmem, ?_⟩) hl
  simp [hstream, hq]

/-! ## The victim (R133) -/

/-- R133, step 1: the oldest SPENT record. -/
theorem victim_spent {prio : Nat} {pre post : List SegmentRecord} {v : SegmentRecord} {s : State}
    (h : s.rpc.cache = pre ++ v :: post) (hv : v.state = .spent) (hpre : ∀ x ∈ pre, x.state ≠ .spent) :
    victim prio s = some v := by
  have hfind : s.rpc.cache.find? (fun r => r.state == .spent) = some v :=
    List.find?_eq_some_iff_append.2 ⟨by simp [hv], pre, post, h, fun x hx => by simpa using hpre x hx⟩
  simp only [victim, hfind]

/-- R133, steps 2 and 3, where no record is SPENT. -/
theorem victim_unspent {prio : Nat} {s : State} (h : ∀ x ∈ s.rpc.cache, x.state ≠ .spent) :
    victim prio s = (victimIn .filling prio s).or (victimIn .complete prio s) := by
  have hfind : s.rpc.cache.find? (fun r => r.state == .spent) = none :=
    List.find?_eq_none.2 fun x hx => by simpa using h x hx
  simp only [victim, hfind]
  cases victimIn .filling prio s <;> rfl

/-- R133: a record in the state `k` is worth `p` to a stream of priority number `prio`: its own stream's number is `p`, and at least
`prio`. -/
def Worth (prio : Nat) (s : State) (k : SegmentState) (r : SegmentRecord) (p : Nat) : Prop :=
  r.state = k ∧ (findStream r.stream s).map Stream.priority = some p ∧ prio ≤ p

/-- R133: the test by which the candidates of a step are found. -/
def candidate (k : SegmentState) (prio : Nat) (s : State) (r : SegmentRecord) : Bool :=
  r.state == k && (priorityOf s r).any fun p => decide (prio ≤ p)

theorem candidate_iff (k : SegmentState) (prio : Nat) (s : State) (r : SegmentRecord) :
    candidate k prio s r = true ↔ ∃ p, Worth prio s k r p := by
  unfold candidate Worth priorityOf
  cases (findStream r.stream s).map Stream.priority <;> simp

/-- R133, steps 2 and 3: the first candidate of the greatest priority number. -/
theorem victimIn_eq (k : SegmentState) (prio : Nat) (s : State) :
    victimIn k prio s =
      (let greatest := (s.rpc.cache.filter (candidate k prio s)).foldl (fun m r => max m ((priorityOf s r).getD 0)) 0
       (s.rpc.cache.filter (candidate k prio s)).find? fun r => priorityOf s r == some greatest) := by
  have htest : (fun r : SegmentRecord =>
      r.state == k && (match priorityOf s r with | some p => decide (prio ≤ p) | none => false)) = candidate k prio s := by
    funext r
    unfold candidate
    cases priorityOf s r <;> rfl
  rw [← htest]
  rfl

theorem foldl_max_eq {α : Type} (f : α → Nat) {l : List α} {m p : Nat} (hm : m ≤ p) (hle : ∀ x ∈ l, f x ≤ p)
    (hex : m = p ∨ ∃ x ∈ l, f x = p) : l.foldl (fun m x => max m (f x)) m = p := by
  induction l generalizing m with
  | nil => simpa using hex
  | cons a l ih =>
    have ha := hle a (by simp)
    refine ih (Nat.max_le.2 ⟨hm, ha⟩) (fun x hx => hle x (by simp [hx])) ?_
    rcases hex with rfl | ⟨x, hx, h⟩
    · exact .inl (Nat.max_eq_left ha)
    · rcases List.mem_cons.1 hx with rfl | hx
      · exact .inl (h ▸ Nat.max_eq_right (h ▸ hm))
      · exact .inr ⟨x, hx, h⟩

theorem victimIn_none {k : SegmentState} {prio : Nat} {s : State} (h : ∀ x ∈ s.rpc.cache, ∀ p, ¬ Worth prio s k x p) :
    victimIn k prio s = none := by
  have hnil : s.rpc.cache.filter (candidate k prio s) = [] :=
    List.filter_eq_nil_iff.2 fun x hx he => let ⟨p, hp⟩ := (candidate_iff k prio s x).1 he; h x hx p hp
  rw [victimIn_eq, hnil]
  rfl

/-- R133, steps 2 and 3: the oldest of the records that are worth most. -/
theorem victimIn_some {k : SegmentState} {prio p : Nat} {pre post : List SegmentRecord} {v : SegmentRecord} {s : State}
    (h : s.rpc.cache = pre ++ v :: post) (hv : Worth prio s k v p)
    (hmost : ∀ x ∈ s.rpc.cache, ∀ n, Worth prio s k x n → n ≤ p) (hpre : ∀ x ∈ pre, ¬ Worth prio s k x p) :
    victimIn k prio s = some v := by
  have hgreatest : (s.rpc.cache.filter (candidate k prio s)).foldl (fun m r => max m ((priorityOf s r).getD 0)) 0 = p := by
    refine foldl_max_eq (fun r => (priorityOf s r).getD 0) (Nat.zero_le _) (fun x hx => ?_) (.inr ⟨v, ?_, ?_⟩)
    · obtain ⟨hx, he⟩ := List.mem_filter.1 hx
      obtain ⟨n, hn⟩ := (candidate_iff k prio s x).1 he
      have hle := hmost x hx n hn
      rwa [priorityOf, hn.2.1]
    · exact List.mem_filter.2 ⟨by simp [h], (candidate_iff k prio s v).2 ⟨p, hv⟩⟩
    · rw [priorityOf, hv.2.1, Option.getD_some]
  have htest : ∀ x, (candidate k prio s x = true ∧ (priorityOf s x == some p) = true) ↔ Worth prio s k x p := by
    intro x
    rw [candidate_iff, beq_iff_eq]
    constructor
    · rintro ⟨⟨n, hs, hn, hle⟩, hp⟩
      exact ⟨hs, hp, Option.some.inj (hn.symm.trans hp) ▸ hle⟩
    · exact fun hw => ⟨⟨p, hw⟩, hw.2.1⟩
  rw [victimIn_eq]
  simp only [hgreatest, List.find?_filter]
  exact List.find?_eq_some_iff_append.2 ⟨decide_eq_true ((htest v).2 hv), pre, post, h, fun x hx => by
    rw [decide_eq_false fun he => hpre x hx ((htest x).1 he), Bool.not_false]⟩

/-! ## The rows of R129 and R132 -/

theorem Stream.captures_iff (st : Stream) : st.captures = true ↔ st.state ≠ .idle ∧ st.withdrawn = false := by
  simp [Stream.captures]

/-- R129, R132: a chunk whose form does not fit makes no record. -/
theorem takeChunkWithoutRecord_unfit {st : Stream} {c : Chunk} (s : State)
    (h : ¬ (c.count = st.chunks ∧ c.index < st.chunks ∧ c.payload.length = st.chunkLength)) :
    takeChunkWithoutRecord st c s = countMalformed s :=
  if_neg fun hf => h ((c.fits_iff _ _).1 hf)

/-- R132: a chunk that fits makes a record where the cache has a place. -/
theorem takeChunkWithoutRecord_room {st : Stream} {c : Chunk} {s : State}
    (h : c.count = st.chunks ∧ c.index < st.chunks ∧ c.payload.length = st.chunkLength) (hroom : s.rpc.cache.length < 64) :
    takeChunkWithoutRecord st c s = appendSegment st c s :=
  (if_pos ((c.fits_iff _ _).2 h)).trans (if_pos hroom)

/-- R132, R133: in a full cache the record takes the place of the victim. -/
theorem takeChunkWithoutRecord_victim {st : Stream} {c : Chunk} {pre post : List SegmentRecord} {v : SegmentRecord} {s : State}
    (h : c.count = st.chunks ∧ c.index < st.chunks ∧ c.payload.length = st.chunkLength) (hfull : s.rpc.cache.length = 64)
    (hk : (s.rpc.cache.map fun r => (r.stream, r.sequence)).Nodup) (hl : s.rpc.cache = pre ++ v :: post)
    (hv : victim st.priority s = some v) :
    takeChunkWithoutRecord st c s = s.withRpc { s.rpc with cache := pre ++ post ++ [newSegment st c] } := by
  rw [takeChunkWithoutRecord, if_pos ((c.fits_iff _ _).2 h), createSegment, if_neg (by simp [hfull, cacheLimit]), hv]
  simp only [freeSegment_split hk hl]
  rfl

/-- R132: a full cache without a victim refuses the chunk. -/
theorem takeChunkWithoutRecord_refused {st : Stream} {c : Chunk} {s : State}
    (h : c.count = st.chunks ∧ c.index < st.chunks ∧ c.payload.length = st.chunkLength) (hfull : s.rpc.cache.length = 64)
    (hv : victim st.priority s = none) : takeChunkWithoutRecord st c s = raise .cacheFull s := by
  rw [takeChunkWithoutRecord, if_pos ((c.fits_iff _ _).2 h), createSegment, if_neg (by simp [hfull, cacheLimit]), hv]

section Rows

variable {c : Chunk} {s : State} (hh : s.hearing = true)

include hh

theorem takeSegment_unknown (h : findStream c.stream s = none) : takeSegment c s = s := by
  simp [takeSegment, hh, h]

theorem takeSegment_uncaptured {st : Stream} (h : findStream c.stream s = some st) (hc : st.captures = false) :
    takeSegment c s = s := by
  simp [takeSegment, hh, h, hc]

theorem takeSegment_unrecorded {st : Stream} (h : findStream c.stream s = some st) (hc : st.captures = true)
    (hno : findSegment c.stream c.sequence s = none) : takeSegment c s = takeChunkWithoutRecord st c s := by
  simp [takeSegment, hh, h, hc, hno]

theorem takeSegment_recorded {st : Stream} {r : SegmentRecord} (h : findStream c.stream s = some st)
    (hc : st.captures = true) (hr : findSegment c.stream c.sequence s = some r) :
    takeSegment c s =
      if r.stamp = c.stamp then
        if c.count = r.count ∧ c.index < r.count ∧ c.payload.length = r.length then
          updateSegment c.stream c.sequence (SegmentRecord.take st.cursor.lastSent c) s
        else countMalformed s
      else if r.state = .spent then takeChunkWithoutRecord st c (freeSegment c.stream c.sequence s)
      else countMalformed s := by
  simp only [takeSegment, hh, h, hc, hr, Bool.not_true, Bool.false_eq_true, if_false, ← Chunk.fits_iff]

end Rows

theorem exec_segment {source : Nat} {c : Chunk} {f : BusFrame} {s : State} (h : FrameTaken 37 source f s)
    (hr : readSegment f.payload = some c) : exec (.segment f) s = .next (takeSegment c (carrierEnded s)) := by
  have hroute : route 37#8 source f.dest.toNat f.payload (carrierEnded s) = takeSegment c (carrierEnded s) := by
    simp [route, hr]
  exact congrArg Host.Outcome.next ((receive_taken h).trans hroute)

/-- Settles O49: the rows of R129 in their order, and of R132 and R133 where a record is made. -/
theorem segmentStored : Obligations.SegmentStored := by
  intro source c f s htaken hread hh hk hlen u cached malformed fits
  have hexec : ∀ x, takeSegment c u = x → exec (.segment f) s = .next x :=
    fun x hx => (exec_segment htaken hread).trans (congrArg _ hx)
  refine ⟨fun hno => hexec _ (takeSegment_unknown (s := u) hh hno), fun st hst => ⟨fun hoff => ?_, fun hi hw => ?_⟩⟩
  · refine hexec _ (takeSegment_uncaptured (s := u) hh hst ?_)
    rcases hoff with h | h <;> simp [Stream.captures, h]
  intro ended made
  have hcapt : st.captures = true := st.captures_iff.2 ⟨hi, hw⟩
  have hended : completedState st.cursor.lastSent c.sequence = ended := completedState_eq _ _
  have hmade : newSegment st c = made := by
    rw [newSegment_eq, hended]
  refine ⟨fun hno => ?_, fun r hr => ?_⟩
  · have hnew := takeSegment_unrecorded (s := u) hh hst hcapt hno
    refine ⟨fun hbad => ?_, fun hfit hroom => ?_, fun hfit hfull => ?_⟩
    · exact hexec _ (hnew.trans (takeChunkWithoutRecord_unfit u hbad))
    · refine hexec _ (hnew.trans ((takeChunkWithoutRecord_room (s := u) hfit hroom).trans ?_))
      rw [appendSegment, hmade]
      rfl
    intro worth
    have hgiven : ∀ pre v post, s.rpc.cache = pre ++ v :: post → victim st.priority u = some v →
        cached (pre ++ post ++ [made]) := by
      intro pre v post hl hv
      rw [← hmade]
      exact hexec _ (hnew.trans (takeChunkWithoutRecord_victim (s := u) hfit hfull hk hl hv))
    refine ⟨fun pre v post hl hv hpre => hgiven pre v post hl (victim_spent hl hv hpre),
      fun hun => ⟨fun k pre v post p hl hv hstep hmost hpre => hgiven pre v post hl ?_, fun hno => ?_⟩⟩
    · have hin : victimIn k st.priority u = some v := victimIn_some (s := u) hl hv hmost hpre
      rw [victim_unspent (s := u) hun]
      rcases hstep with rfl | ⟨rfl, hnone⟩
      · rw [hin, Option.some_or]
      · rw [victimIn_none (s := u) hnone, hin, Option.none_or]
    · refine hexec _ (hnew.trans (takeChunkWithoutRecord_refused (s := u) hfit hfull ?_))
      rw [victim_unspent (s := u) hun, victimIn_none (s := u) fun x hx p => (hno x hx p).1,
        victimIn_none (s := u) fun x hx p => (hno x hx p).2, Option.none_or]
  · have hrow := takeSegment_recorded (s := u) hh hst hcapt hr
    refine ⟨fun hs => ⟨fun hbad => ?_, fun hfit hheld => ?_, fun hfit hfill hmiss => ?_⟩, fun hs hsp => ?_, fun hs hsp => ?_⟩
    · rw [if_pos hs, if_neg hbad] at hrow
      exact hexec _ hrow
    · rw [if_pos hs, if_pos hfit, updateSegment_same (s := u) hk hr (SegmentRecord.take_ignored hheld)] at hrow
      exact hexec _ hrow
    · have htake := SegmentRecord.take_missing (lastSent := st.cursor.lastSent) hfill hmiss
      rw [show completedState st.cursor.lastSent r.sequence = ended by rw [(findSegment_mem hr).2.2, hended]] at htake
      rw [if_pos hs, if_pos hfit, updateSegment_found (s := u) hk hr, htake] at hrow
      exact ⟨_, chunkAt_stored hmiss, storeChunk_length _ _ _ hmiss, rfl, hexec _ hrow⟩
    · rw [if_neg hs, if_neg hsp] at hrow
      exact hexec _ hrow
    · intro left
      rw [if_neg hs, if_pos hsp] at hrow
      have hfree := freeSegment_eq c.stream c.sequence u
      refine ⟨fun hfit => hexec _ (hrow.trans ?_), fun hbad => hexec _ (hrow.trans ?_)⟩
      · rw [takeChunkWithoutRecord_room hfit (freeSegment_room (s := u) hr hlen), appendSegment, hmade, hfree]
        rfl
      · rw [takeChunkWithoutRecord_unfit _ hbad, hfree]
        rfl

end Sys2Proof.Machine
end

section
/-! What the receivers read from a payload, and which payloads they discard (R117, R201, R202). -/
namespace Sys2Proof.Machine

/-! ## Codes and presence bytes -/

theorem paddingOfCode_eq (n : Nat) :
    paddingOfCode n = if n ≤ 1 then some (if n = 0 then .rep else .fill) else none :=
  match n with
  | 0 | 1 => rfl
  | n + 2 => by simp [paddingOfCode]

theorem alignmentOfCode_eq (n : Nat) :
    alignmentOfCode n = if n ≤ 1 then some (if n = 0 then .left else .right) else none :=
  match n with
  | 0 | 1 => rfl
  | n + 2 => by simp [alignmentOfCode]

theorem verdictOfCode_duplicate {n : Nat} : verdictOfCode n = some .duplicate ↔ n = 4 := by
  match n with
  | 0 | 1 | 2 | 3 | 4 | 5 => decide
  | n + 6 => simp [verdictOfCode]

/-- R202: the state byte of a RESYNC_FILL names a state where it is one of 1 to 3. -/
theorem fillStateOfCode_some {n : Nat} (h : n ≠ 0) (hn : n ≤ 3) : fillStateOfCode n ≠ none :=
  match n with
  | 0 => absurd rfl h
  | 1 | 2 | 3 => nofun

/-- R201: an optional field behind a presence byte of 0 or 1. -/
theorem optionalAt_present {p : List Byte} {off : Nat} (len : Nat) (h : fieldAt p off 1 ≤ 1) :
    optionalAt p off len = some (if fieldAt p off 1 = 1 then some (fieldAt p (off + 1) len) else none) := by
  unfold optionalAt
  split
  · next h0 => simp [h0]
  · next h1 => simp [h1]
  · next h0 h1 => exact absurd (Nat.le_one_iff_eq_zero_or_eq_one.1 h) (not_or.2 ⟨h0, h1⟩)

/-- R201: any other presence byte is a fault of form. -/
theorem optionalAt_bad {p : List Byte} {off : Nat} (len : Nat) (h : 1 < fieldAt p off 1) : optionalAt p off len = none := by
  unfold optionalAt
  split
  · omega
  · omega
  · rfl

/-! ## The receivers -/

/-- R117: an announce, its fields brought into range. -/
theorem readAnnounce_eq (p : List Byte) :
    readAnnounce p = if p.length = 8 ∧ fieldAt p 1 1 ≤ 3 ∧ fieldAt p 6 1 ≤ 1 ∧ fieldAt p 7 1 ≤ 1 then
        some { id := fieldAt p 0 1, priority := fieldAt p 1 1
               demand := if 6 < fieldAt p 2 1 then 6 else fieldAt p 2 1
               chunks := if fieldAt p 3 1 = 0 then 1 else if 64 < fieldAt p 3 1 then 64 else fieldAt p 3 1
               chunkLength := if fieldAt p 4 2 < 64 then 64 else if 1024 < fieldAt p 4 2 then 1024 else fieldAt p 4 2
               padding := if fieldAt p 6 1 = 0 then .rep else .fill
               alignment := if fieldAt p 7 1 = 0 then .left else .right }
      else none := by
  have hdemand : min (fieldAt p 2 1) 6 = if 6 < fieldAt p 2 1 then 6 else fieldAt p 2 1 := by split <;> omega
  have hchunks : max 1 (min (fieldAt p 3 1) 64) =
      if fieldAt p 3 1 = 0 then 1 else if 64 < fieldAt p 3 1 then 64 else fieldAt p 3 1 := by
    split
    · omega
    · split <;> omega
  have hlength : max 64 (min (fieldAt p 4 2) 1024) =
      if fieldAt p 4 2 < 64 then 64 else if 1024 < fieldAt p 4 2 then 1024 else fieldAt p 4 2 := by
    split
    · omega
    · split <;> omega
  unfold readAnnounce
  rw [paddingOfCode_eq, alignmentOfCode_eq, hdemand, hchunks, hlength]
  by_cases hform : p.length = 8 ∧ fieldAt p 1 1 ≤ 3
  · by_cases hp : fieldAt p 6 1 ≤ 1
    · by_cases ha : fieldAt p 7 1 ≤ 1 <;> simp [hform, hp, ha]
    · simp [hform, hp]
  · rw [if_neg hform, if_neg fun h => hform ⟨h.1, h.2.1⟩]

/-- R201, R202: a grant of another length, or with a presence byte out of range, is discarded. -/
theorem readGrant_bad {p : List Byte} (h : 4 < fieldAt p 17 1 ∨ p.length ≠ 18 + fieldAt p 17 1 ∨ 1 < fieldAt p 10 1) :
    readGrant p = none := by
  refine if_neg ?_
  rintro ⟨hlen, hn, hb⟩
  omega

theorem readGrant_good {p : List Byte} (hn : fieldAt p 17 1 ≤ 4) (hlen : p.length = 18 + fieldAt p 17 1)
    (hb : fieldAt p 10 1 ≤ 1) :
    readGrant p = some
      { client := fieldAt p 0 6, since := fieldAt p 6 4,
        binding := if fieldAt p 10 1 = 1 then some { ticket := fieldAt p 11 4, seat := fieldAt p 15 2 } else none,
        streams := (p.drop 18).map BitVec.toNat } := if_pos ⟨hlen, hn, hb⟩

theorem readVerdict_bad {p : List Byte}
    (h : p.length ≠ 14 ∨ 5 < fieldAt p 12 1 ∨ (fieldAt p 12 1 = 4 ∧ (fieldAt p 13 1 = 0 ∨ 15 < fieldAt p 13 1))) :
    readVerdict p = none := by
  unfold readVerdict
  split
  · next hlen =>
    rcases h with h | hcode | ⟨hcode, hn⟩
    · exact absurd hlen h
    · have hnone : verdictOfCode (fieldAt p 12 1) = none := List.getElem?_eq_none hcode
      rw [hnone, Option.bind_none]
    · rw [verdictOfCode_duplicate.2 hcode, Option.bind_some, if_pos ⟨rfl, by omega⟩]
  · rfl

theorem readVerdict_good {p : List Byte} {r : Verdict} (hlen : p.length = 14)
    (hr : verdictOfCode (fieldAt p 12 1) = some r) (hn : r = .duplicate → 1 ≤ fieldAt p 13 1 ∧ fieldAt p 13 1 ≤ 15) :
    readVerdict p = some { client := fieldAt p 0 6, ticket := fieldAt p 6 4, seat := fieldAt p 10 2, result := r,
                           duplicates := fieldAt p 13 1 } := by
  rw [readVerdict, if_pos hlen, hr, Option.bind_some, if_neg fun h => h.2 (hn h.1)]

/-- R201, R202: an ENTITLEMENT payload of another length, or with a code or a presence byte out of range, is discarded. -/
theorem readEntitlement_bad {p : List Byte}
    (h : p.length ≠ 25 ∨ 4 < fieldAt p 2 1 ∨ 2 < fieldAt p 9 1 ∨ 1 < fieldAt p 13 1 ∨ 1 < fieldAt p 20 1 ∨
      (fieldAt p 2 1 = 4 ∧ (fieldAt p 12 1 = 0 ∨ 3 < fieldAt p 12 1))) : readEntitlement p = none := by
  rcases h with hlen | haction | htier | hclient | htime | hfill
  · exact if_neg hlen
  · exact readEntitlement_badCodes (.inl haction)
  · exact readEntitlement_badCodes (.inr (.inl htier))
  · unfold readEntitlement
    rw [optionalAt_bad 6 hclient]
    split
    · split
      · contradiction
      · rfl
    · rfl
  · unfold readEntitlement
    rw [optionalAt_bad 4 htime]
    split
    · split
      · contradiction
      · rfl
    · rfl
  · exact readEntitlement_badCodes (.inr (.inr hfill))

theorem readEntitlement_good {p : List Byte} {a : Action} {t : Tier} (hlen : p.length = 25)
    (ha : actionOfCode (fieldAt p 2 1) = some a) (ht : tierOfCode (fieldAt p 9 1) = some t) (hclient : fieldAt p 13 1 ≤ 1)
    (htime : fieldAt p 20 1 ≤ 1) (hfill : fieldAt p 2 1 = 4 → fieldAt p 12 1 ≠ 0 ∧ fieldAt p 12 1 ≤ 3) :
    readEntitlement p = some
      { seat := fieldAt p 0 2, action := a
        ticket := { number := fieldAt p 3 4, serial := fieldAt p 7 2, tier := t }
        revision := fieldAt p 10 2, fill := fillStateOfCode (fieldAt p 12 1)
        client := if fieldAt p 13 1 = 1 then some (fieldAt p 14 6) else none
        time := if fieldAt p 20 1 = 1 then some (fieldAt p 21 4) else none } := by
  have hstate : ¬ (a = .resyncFill ∧ fillStateOfCode (fieldAt p 12 1) = none) := by
    rintro ⟨rfl, hnone⟩
    obtain ⟨h0, h3⟩ := hfill (actionOfCode_fill ha)
    exact fillStateOfCode_some h0 h3 hnone
  rw [readEntitlement, if_pos hlen, ha, ht, optionalAt_present 6 hclient, optionalAt_present 4 htime]
  exact if_neg hstate

end Sys2Proof.Machine
end

section
/-! The bytes that the node drives for a frame read back (12.1, R178, R201). -/
namespace Sys2Proof.Machine

/-! ## Fields in a row -/

/-- A field with nothing behind it. -/
theorem fieldAt_whole {n v : Nat} (h : v < 256 ^ n) : fieldAt (beBytes n v) 0 n = v := by
  rw [← List.append_nil (beBytes n v), fieldAt_front n v [] h]

/-- A field behind another one. -/
theorem fieldAt_behind {n off : Nat} (v k : Nat) (rest : List Byte) (h : n ≤ off) :
    fieldAt (beBytes n v ++ rest) off k = fieldAt rest (off - n) k := by
  have hskip := fieldAt_skip (beBytes n v) rest (off - n) k
  rwa [beBytes_length, Nat.add_sub_cancel' h] at hskip

/-- What stands behind a field. -/
theorem drop_behind {n off : Nat} (v : Nat) (rest : List Byte) (h : n ≤ off) :
    (beBytes n v ++ rest).drop off = rest.drop (off - n) := by
  rw [List.drop_append, List.drop_eq_nil_of_le (by simpa using h), List.nil_append, beBytes_length]

/-- Bytes of value 0 are a field of any smaller width, and what is left. -/
theorem beBytes_zero (n m : Nat) : beBytes (n + m) 0 = beBytes n 0 ++ beBytes m 0 := by
  induction m with
  | zero => simp [beBytes]
  | succ m ih => rw [← Nat.add_assoc, beBytes, beBytes, Nat.zero_div, ih, List.append_assoc]

theorem signed16_signedBytes {v : Int} (h : -32768 ≤ v) (h' : v ≤ 32767) : signed16 (v % 65536).toNat = v := by
  unfold signed16
  split <;> omega

/-! ## The frame on the line -/

/-- The bytes of a frame that its check covers. -/
def TxFrame.covered (station : Nat) (g : TxFrame) : List Byte :=
  beBytes 1 g.dest ++ (beBytes 1 station ++ (beBytes 1 g.body.kindCode ++
    (beBytes 2 g.body.payload.length ++ g.body.payload)))

theorem TxFrame.wire_eq (station : Nat) (g : TxFrame) :
    g.wire station = g.covered station ++ beBytes 2 (crc16 frameCheckStart (g.covered station)).toNat := by
  simp [TxFrame.wire, TxFrame.covered]

theorem TxFrame.wire_length (station : Nat) (g : TxFrame) : (g.wire station).length = g.body.payload.length + 7 := by
  simp [TxFrame.wire_eq, TxFrame.covered]
  omega

theorem kindCode_range (b : OutFrame) : 1 ≤ b.kindCode ∧ b.kindCode ≤ 13 := by
  cases b <;> simp [OutFrame.kindCode]

section Line

variable {station : Nat} {g : TxFrame}

theorem kindOfRun_wire : kindOfRun (g.wire station) = BitVec.ofNat 8 g.body.kindCode := by
  have hkind : g.body.kindCode < 256 ^ 1 := Nat.lt_of_le_of_lt (kindCode_range g.body).2 (by decide)
  simp (disch := omega) only [kindOfRun, TxFrame.wire_eq, TxFrame.covered, List.append_assoc, fieldAt_behind, Nat.reduceSub,
    fieldAt_front]

/-- 12.1: what the receiver takes the driven bytes for. -/
theorem frameOfRun_wire (hs : station < 256) (hd : g.dest < 256) (hl : g.body.payload.length < 65536) :
    frameOfRun (g.wire station) =
      { dest := BitVec.ofNat 8 g.dest, source := BitVec.ofNat 8 station, length := BitVec.ofNat 16 g.body.payload.length,
        payload := g.body.payload, check := crc16 frameCheckStart (g.covered station) } := by
  have hcheck : fieldAt (g.wire station) ((g.wire station).length - 2) 2 =
      (crc16 frameCheckStart (g.covered station)).toNat := by
    rw [TxFrame.wire_eq, List.length_append, beBytes_length, Nat.add_sub_cancel, ← Nat.add_zero (g.covered station).length,
      fieldAt_skip, fieldAt_whole (BitVec.isLt _)]
  have hpayload : ((g.wire station).drop 5).take ((g.wire station).length - 7) = g.body.payload := by
    have hsplit : g.wire station =
        (beBytes 1 g.dest ++ beBytes 1 station ++ beBytes 1 g.body.kindCode ++ beBytes 2 g.body.payload.length) ++
          (g.body.payload ++ beBytes 2 (crc16 frameCheckStart (g.covered station)).toNat) := by
      simp [TxFrame.wire_eq, TxFrame.covered]
    rw [TxFrame.wire_length, Nat.add_sub_cancel, hsplit, List.drop_left' (by simp), List.take_left' rfl]
  have hdest : fieldAt (g.wire station) 0 1 = g.dest := by
    simp (disch := omega) only [TxFrame.wire_eq, TxFrame.covered, List.append_assoc, fieldAt_front]
  have hsource : fieldAt (g.wire station) 1 1 = station := by
    simp (disch := omega) only [TxFrame.wire_eq, TxFrame.covered, List.append_assoc, fieldAt_behind, Nat.reduceSub, fieldAt_front]
  have hlength : fieldAt (g.wire station) 3 2 = g.body.payload.length := by
    simp (disch := omega) only [TxFrame.wire_eq, TxFrame.covered, List.append_assoc, fieldAt_behind, Nat.reduceSub, fieldAt_front]
  rw [frameOfRun, hcheck, hpayload, hdest, hsource, hlength, BitVec.ofNat_toNat, BitVec.setWidth_eq]

/-- R165: the driven bytes are neither damaged nor unreadable. -/
theorem frameGood_wire (hs : 1 ≤ station) (hs' : station ≤ 31) (hd : g.dest ≤ 31) (hl : g.body.payload.length ≤ 1100) :
    frameGood (kindOfRun (g.wire station)) (frameOfRun (g.wire station)) = true := by
  have hlen : (BitVec.ofNat 16 g.body.payload.length).toNat = g.body.payload.length := by
    rw [BitVec.toNat_ofNat]; omega
  rw [kindOfRun_wire, frameOfRun_wire (by omega) (by omega) (by omega)]
  rw [frameGood, Bool.and_eq_true]
  constructor
  · simp only [frameCheck, frameHeader, hlen, beq_iff_eq, TxFrame.covered]
    rfl
  · have hsource : (BitVec.ofNat 8 station).toNat = station := by
      rw [BitVec.toNat_ofNat]; omega
    have hdest : (BitVec.ofNat 8 g.dest).toNat = g.dest := by
      rw [BitVec.toNat_ofNat]; omega
    have hne : BitVec.ofNat 8 station ≠ 0 := fun h0 => by
      rw [h0] at hsource
      exact absurd hsource (by simp; omega)
    simp only [headerReadable, hlen, hsource, hdest, beq_self_eq_true, Bool.and_eq_true, decide_eq_true_eq]
    exact ⟨⟨⟨⟨hl, trivial⟩, hne⟩, hs'⟩, hd⟩

end Line

/-! ## The payloads (12.1, R201) -/

/-- R201: an absent field is a presence byte of 0 and zero bytes. -/
theorem optionalBytes_none (len : Nat) : optionalBytes len none = beBytes 1 0 ++ beBytes len 0 := by
  rw [optionalBytes, Nat.add_comm, beBytes_zero]

theorem readAdvert_payload {first count total : Nat} {p : Int} {m : Monitor} {halved : Bool}
    (h : FrameFits (.loadAdvert first count p m total halved)) :
    readAdvert (OutFrame.payload (.loadAdvert first count p m total halved)) =
      some { firstSeat := first, seatCount := count, pressure := p } := by
  obtain ⟨hfirst, hcount, hlow, hhigh, htotal⟩ := h
  have hm : m.code ≤ 2 := by cases m <;> decide
  have hb : flagCode halved ≤ 1 := by cases halved <;> decide
  simp (disch := omega) only [readAdvert, OutFrame.payload, signedBytes, List.append_assoc, List.length_append, beBytes_length,
    fieldAt_behind, Nat.reduceSub, fieldAt_front, fieldAt_whole, signed16_signedBytes, hm, hb, Nat.reduceAdd, and_self, if_true]

theorem readPull_payload {client since attempt : Nat} (h : FrameFits (.ctxPull client since attempt)) :
    readPull (OutFrame.payload (.ctxPull client since attempt)) = some (client, since) := by
  obtain ⟨hclient, hsince, -⟩ := h
  simp (disch := omega) only [readPull, OutFrame.payload, List.append_assoc, List.length_append, beBytes_length,
    fieldAt_behind, Nat.reduceSub, fieldAt_front, Nat.reduceAdd, if_true]

theorem readClient_payload {client : Nat} (h : client < 2 ^ 48) : readClient (beBytes 6 client) = some client := by
  simp (disch := omega) only [readClient, beBytes_length, fieldAt_whole, if_true]

theorem readDecline_payload {client : Nat} {reason : DeclineReason} (h : client < 2 ^ 48) :
    readDecline (OutFrame.payload (.steerDecline client reason)) = some client := by
  simp (disch := omega) only [readDecline, OutFrame.payload, List.length_append, beBytes_length, fieldAt_front,
    Nat.reduceAdd, if_true]

theorem readOffer_payload {client subs : Nat} {seat : Option Nat} (h : FrameFits (.steerOffer client seat subs)) :
    readOffer (OutFrame.payload (.steerOffer client seat subs)) = some (client, seat) := by
  obtain ⟨hclient, hseat, -⟩ := h
  cases seat with
  | none =>
    simp (disch := omega) only [readOffer, OutFrame.payload, optionalBytes_none, List.append_assoc, List.length_append,
      beBytes_length, fieldAt_behind, Nat.reduceSub, fieldAt_front, Nat.reduceAdd, if_true, optionalAt, Option.map_some]
  | some q =>
    have hq := hseat q rfl
    simp (disch := omega) only [readOffer, OutFrame.payload, optionalBytes, List.append_assoc, List.length_append,
      beBytes_length, fieldAt_behind, Nat.reduceSub, fieldAt_front, Nat.reduceAdd, if_true, optionalAt, Option.map_some]

theorem readClaim_payload {client ticket seat serial tier : Nat} (h : FrameFits (.checkinClaim client ticket seat serial tier)) :
    readClaim (OutFrame.payload (.checkinClaim client ticket seat serial tier)) =
      some { client := client, ticket := ticket, seat := seat, serial := serial } := by
  obtain ⟨hclient, hticket, hseat, hserial, -⟩ := h
  simp (disch := omega) only [readClaim, OutFrame.payload, List.append_assoc, List.length_append, beBytes_length,
    fieldAt_behind, Nat.reduceSub, fieldAt_front, Nat.reduceAdd, if_true]

theorem verdictOfCode_code (r : Verdict) : verdictOfCode r.code = some r := by cases r <;> rfl

theorem readVerdict_payload {client ticket seat n : Nat} {result : Verdict}
    (h : FrameFits (.checkinVerdict client ticket seat result n)) :
    readVerdict (OutFrame.payload (.checkinVerdict client ticket seat result n)) =
      some { client := client, ticket := ticket, seat := seat, result := result, duplicates := n } := by
  obtain ⟨hclient, hticket, hseat, hn, hdup⟩ := h
  have hcode : result.code ≤ 5 := by cases result <;> decide
  have hdrop : ¬ (result = .duplicate ∧ ¬ (1 ≤ n ∧ n ≤ 15)) := fun hd => hd.2 (hdup hd.1)
  simp (disch := omega) only [readVerdict, OutFrame.payload, List.append_assoc, List.length_append, beBytes_length,
    fieldAt_behind, Nat.reduceSub, fieldAt_front, fieldAt_whole, Nat.reduceAdd, if_true, verdictOfCode_code, Option.bind_some,
    hdrop, if_false]

/-- A list of stream ids on the line and back. -/
theorem streams_read {l : List Nat} (h : ∀ id ∈ l, id < 256) : (l.flatMap (beBytes 1)).map BitVec.toNat = l := by
  have hbytes : l.flatMap (beBytes 1) = l.map (BitVec.ofNat 8) := List.map_eq_flatMap.symm
  rw [hbytes, List.map_map]
  refine (List.map_congr_left fun id hid => ?_).trans (List.map_id l)
  exact Nat.mod_eq_of_lt (h id hid)

theorem streams_length (l : List Nat) : (l.flatMap (beBytes 1)).length = l.length := by
  simp [List.length_flatMap]

theorem readGrant_payload {client since : Nat} {b : Option Binding} {streams : List Nat}
    (h : FrameFits (.ctxGrant client since b streams)) :
    readGrant (OutFrame.payload (.ctxGrant client since b streams)) =
      some { client := client, since := since, binding := b, streams := streams } := by
  obtain ⟨hclient, hsince, hbinding, hlen, hids⟩ := h
  cases b with
  | none =>
    simp (disch := omega) only [readGrant, OutFrame.payload, beBytes_zero 1 6, List.append_assoc, List.length_append,
      beBytes_length, fieldAt_behind, drop_behind, Nat.reduceSub, fieldAt_front, List.drop_zero, streams_length,
      streams_read hids]
    exact if_pos ⟨by omega, hlen, by omega⟩
  | some b =>
    obtain ⟨hticket, hseat⟩ := hbinding b rfl
    simp (disch := omega) only [readGrant, OutFrame.payload, List.append_assoc, List.length_append, beBytes_length,
      fieldAt_behind, drop_behind, Nat.reduceSub, fieldAt_front, List.drop_zero, streams_length, streams_read hids]
    exact if_pos ⟨by omega, hlen, by omega⟩

/-- 12.1: no frame that the node sends is long. -/
theorem payload_length_le {b : OutFrame} (h : FrameFits b) : b.payload.length ≤ 22 := by
  cases b with
  | ctxGrant client since b streams =>
    obtain ⟨-, -, -, hlen, -⟩ := h
    cases b <;> simp only [OutFrame.payload, List.length_append, beBytes_length, streams_length] <;> omega
  | steerOffer client seat subs => cases seat <;> simp [OutFrame.payload, optionalBytes]
  | _ => simp [OutFrame.payload, signedBytes]

/-- Settles O58: what a receiver reads from any payload, and then what it reads from the bytes that the node drives. -/
theorem framesReadBack : Obligations.FramesReadBack := by
  refine ⟨fun p => ⟨readAnnounce_eq p, ⟨readGrant_bad, fun hn hlen => ⟨fun hb => ?_, fun hb => ?_⟩⟩,
    ⟨readVerdict_bad, fun hgood => ?_⟩, ⟨readEntitlement_bad, fun hgood => ?_⟩, fun h => if_neg h, fun h => if_pos h⟩,
    fun station g hs hs' hd hfits => ?_⟩
  · rw [readGrant_good hn hlen (by omega), if_neg (by omega)]
  · rw [readGrant_good hn hlen (by omega), if_pos hb]
  · simp only [not_or, not_and, not_not, not_lt] at hgood
    obtain ⟨hlen, hcode, hdup⟩ := hgood
    obtain ⟨r, hr⟩ : ∃ r, verdictOfCode (fieldAt p 12 1) = some r :=
      ⟨_, List.getElem?_eq_getElem (Nat.lt_succ_of_le hcode)⟩
    refine ⟨_, readVerdict_good hlen hr fun hr4 => ?_, rfl, rfl, rfl, rfl, hr⟩
    obtain ⟨h0, h15⟩ := hdup (verdictOfCode_duplicate.1 (hr4 ▸ hr))
    exact ⟨Nat.one_le_iff_ne_zero.2 h0, h15⟩
  · simp only [not_or, not_and, not_not, not_lt] at hgood
    obtain ⟨hlen, haction, htier, hclient, htime, hfill⟩ := hgood
    obtain ⟨a, ha⟩ : ∃ a, actionOfCode (fieldAt p 2 1) = some a :=
      ⟨_, List.getElem?_eq_getElem (Nat.lt_succ_of_le haction)⟩
    obtain ⟨t, ht⟩ : ∃ t, tierOfCode (fieldAt p 9 1) = some t :=
      ⟨_, List.getElem?_eq_getElem (Nat.lt_succ_of_le htier)⟩
    exact ⟨_, readEntitlement_good hlen ha ht hclient htime hfill, rfl, rfl, ha, rfl, rfl, ht, rfl, rfl, rfl⟩
  · have hlen := payload_length_le hfits
    have hkind := kindCode_range g.body
    have hframe := frameOfRun_wire (station := station) (g := g) (by omega) (by omega) (by omega)
    have hpayload : (frameOfRun (g.wire station)).payload = g.body.payload := congrArg BusFrame.payload hframe
    refine ⟨?_, ?_, frameGood_wire hs hs' hd (by omega), ?_, ?_, hpayload, ?_⟩
    · simp [isFragment, TxFrame.wire_length]
    · rw [kindOfRun_wire, BitVec.toNat_ofNat]; omega
    · rw [hframe, BitVec.toNat_ofNat]; omega
    · rw [hframe, BitVec.toNat_ofNat]; omega
    rw [hpayload]
    obtain ⟨tag, dest, body⟩ := g
    cases body with
    | loadAdvert => exact readAdvert_payload hfits
    | ctxPull => exact readPull_payload hfits
    | ctxGrant => exact readGrant_payload hfits
    | ctxNone | ctxHeld | steerAccept => exact readClient_payload hfits
    | steerOffer => exact readOffer_payload hfits
    | steerDecline => exact readDecline_payload hfits
    | checkinClaim => exact readClaim_payload hfits
    | checkinVerdict => exact readVerdict_payload hfits
    | checkinNote | incident | resyncRequest => simp [OutFrame.payload]

end Sys2Proof.Machine
end

section
/-! The map rebuild: the order list, the handing out of the pool, the runs of places (R139 to R141). -/
namespace Sys2Proof.Machine

/-! ## The order of a group (R139) -/

/-- R139: `b` does not go before `a` where `a` is first, or equal, by priority, then wanted-since, then stream id. -/
theorem before_eq_false_iff {a b : Stream} :
    b.before a = false ↔ a.priority < b.priority ∨ (a.priority = b.priority ∧
      (a.wantedSince.getD 0 < b.wantedSince.getD 0 ∨
        (a.wantedSince.getD 0 = b.wantedSince.getD 0 ∧ a.id ≤ b.id))) := by
  simp only [Stream.before, Bool.or_eq_false_iff, Bool.and_eq_false_imp, beq_iff_eq, decide_eq_false_iff_not]
  omega

theorem before_asymm {a b : Stream} (h : a.before b = true) : b.before a = false := by
  have hne : ¬ a.before b = false := by simp [h]
  rw [before_eq_false_iff] at hne ⊢
  omega

theorem before_eq_false_trans {a b c : Stream} (hab : b.before a = false) (hbc : c.before b = false) :
    c.before a = false := by
  rw [before_eq_false_iff] at hab hbc ⊢
  omega

theorem insertStream_perm (st : Stream) (l : List Stream) : (insertStream st l).Perm (st :: l) := by
  induction l with
  | nil => exact .refl _
  | cons x xs ih =>
    unfold insertStream
    split
    · exact .refl _
    · exact (ih.cons x).trans (.swap st x xs)

theorem insertStream_pairwise (st : Stream) {l : List Stream} (h : l.Pairwise fun a b => b.before a = false) :
    (insertStream st l).Pairwise fun a b => b.before a = false := by
  induction l with
  | nil => exact List.pairwise_singleton _ _
  | cons x xs ih =>
    obtain ⟨hx, hxs⟩ := List.pairwise_cons.1 h
    unfold insertStream
    split
    · next hfirst =>
      have hst := before_asymm hfirst
      refine h.cons fun y hy => ?_
      obtain rfl | hy := List.mem_cons.1 hy
      · exact hst
      · exact before_eq_false_trans hst (hx y hy)
    · next hlater =>
      refine (ih hxs).cons fun y hy => ?_
      obtain rfl | hy := List.mem_cons.1 ((insertStream_perm st xs).mem_iff.1 hy)
      · exact Bool.eq_false_iff.2 hlater
      · exact hx y hy

theorem sortStreams_perm (l : List Stream) : (sortStreams l).Perm l := by
  induction l with
  | nil => exact .refl _
  | cons st l ih => exact (insertStream_perm st _).trans (ih.cons st)

theorem sortStreams_pairwise (l : List Stream) : (sortStreams l).Pairwise fun a b => b.before a = false := by
  induction l with
  | nil => exact .nil
  | cons st l ih => exact insertStream_pairwise st ih

/-! ## The order list (R139) -/

theorem drains_iff {st : Stream} : st.drains = true ↔ st.state = .draining := beq_iff_eq

theorem wants_iff {st : Stream} :
    st.wants = true ↔ (st.state = .wanted ∨ st.state = .live ∨ st.state = .starved) ∧ 0 < st.subscribers ∧
      st.withdrawn = false := by
  simp [Stream.wants, or_assoc, and_assoc]

theorem not_draining_of_wants {st : Stream} (h : st.wants = true) : st.state ≠ .draining := by
  obtain ⟨hstate, -⟩ := wants_iff.1 h
  rcases hstate with hs | hs | hs <;> simp [hs]

/-- The members of a sorted group. -/
theorem mem_sortStreams_filter {test : Stream → Bool} {l : List Stream} {st : Stream} :
    st ∈ sortStreams (l.filter test) ↔ st ∈ l ∧ test st = true :=
  (sortStreams_perm _).mem_iff.trans List.mem_filter

theorem mem_orderedStreams {s : State} {st : Stream} :
    st ∈ orderedStreams s ↔ st ∈ s.rpc.streams ∧ (st.state = .draining ∨
      ((st.state = .wanted ∨ st.state = .live ∨ st.state = .starved) ∧ 0 < st.subscribers ∧ st.withdrawn = false)) := by
  rw [orderedStreams, List.mem_append, mem_sortStreams_filter, mem_sortStreams_filter, drains_iff, wants_iff, and_or_left]

/-- R139: the draining group goes first, and each group is in its order. -/
theorem orderedStreams_pairwise (s : State) :
    (orderedStreams s).Pairwise fun a b => (a.state = .draining ∧ b.state ≠ .draining) ∨
      ((a.state = .draining ↔ b.state = .draining) ∧ b.before a = false) := by
  have hdrains {st : Stream} (h : st ∈ sortStreams (s.rpc.streams.filter Stream.drains)) : st.state = .draining :=
    drains_iff.1 (mem_sortStreams_filter.1 h).2
  have hwants {st : Stream} (h : st ∈ sortStreams (s.rpc.streams.filter Stream.wants)) : st.state ≠ .draining :=
    not_draining_of_wants (mem_sortStreams_filter.1 h).2
  refine List.pairwise_append.2 ⟨?_, ?_, fun a ha b hb => .inl ⟨hdrains ha, hwants hb⟩⟩
  · exact (sortStreams_pairwise _).imp_of_mem fun ha hb h => .inr ⟨iff_of_true (hdrains ha) (hdrains hb), h⟩
  · exact (sortStreams_pairwise _).imp_of_mem fun ha hb h => .inr ⟨iff_of_false (hwants ha) (hwants hb), h⟩

/-- No stream stands in the order list twice: no stream is of both groups. -/
theorem orderedStreams_ids_nodup {s : State} (hn : (s.rpc.streams.map Stream.id).Nodup) :
    ((orderedStreams s).map Stream.id).Nodup := by
  have hgroup (test : Stream → Bool) : ((sortStreams (s.rpc.streams.filter test)).map Stream.id).Nodup :=
    ((sortStreams_perm _).map _).nodup_iff.2 (hn.sublist (List.filter_sublist.map _))
  rw [orderedStreams, List.map_append]
  refine List.nodup_append'.2 ⟨hgroup _, hgroup _, List.disjoint_left.2 fun id hd hw => ?_⟩
  obtain ⟨a, ha, rfl⟩ := List.mem_map.1 hd
  obtain ⟨b, hb, hid⟩ := List.mem_map.1 hw
  obtain ⟨ha, hdrains⟩ := mem_sortStreams_filter.1 ha
  obtain ⟨hb, hwants⟩ := mem_sortStreams_filter.1 hb
  obtain rfl := List.inj_on_of_nodup_map hn hb ha hid
  exact not_draining_of_wants hwants (drains_iff.1 hdrains)

/-! ## The handing out of the pool (R140) -/

theorem slotsAsked_eq (s : State) (st : Stream) :
    slotsAsked s st = if st.state = .draining then max 1 (slotsInForce st.id s) else st.demand := by
  unfold slotsAsked
  congr 1
  split <;> omega

/-- The streams stay in their order. -/
theorem handOut_map_fst (s : State) (k : Nat) (l : List Stream) : (handOut s k l).map Prod.fst = l := by
  induction l generalizing k with
  | nil => rfl
  | cons st l ih => exact congrArg (st :: ·) (ih _)

theorem handOut_sum_le (s : State) (k : Nat) (l : List Stream) : ((handOut s k l).map Prod.snd).sum ≤ k := by
  induction l generalizing k with
  | nil => exact Nat.zero_le _
  | cons st l ih =>
    have hrest := ih (k - min (slotsAsked s st) k)
    simp only [handOut, List.map_cons, List.sum_cons]
    omega

/-- R140: each stream is given what it asks, up to what those before it have left of the pool. -/
theorem handOut_getElem? {s : State} {l : List Stream} {i : Nat} {st : Stream} (k : Nat) (h : l[i]? = some st) :
    (handOut s k l)[i]? =
      some (st, min (slotsAsked s st) (k - (((handOut s k l).take i).map Prod.snd).sum)) := by
  induction l generalizing k i with
  | nil => simp at h
  | cons x l ih =>
    cases i with
    | zero =>
      obtain rfl : x = st := by simpa using h
      simp [handOut]
    | succ i =>
      have hrest := ih (k - min (slotsAsked s x) k) (by simpa using h)
      simp only [handOut, List.getElem?_cons_succ, List.take_succ_cons, List.map_cons, List.sum_cons, hrest, Nat.sub_sub]

/-! ## The runs (R141) -/

theorem flatMap_runOf_length (given : List (Stream × Nat)) :
    (given.flatMap runOf).length = (given.map Prod.snd).sum := by
  simp [List.length_flatMap, runOf]

/-- R141: nothing lies below the first run, and the top of the map is what the streams leave of the pool. -/
theorem placeRuns_eq {slots pool : Nat} (given : List (Stream × Nat)) (h : pool ≤ slots) :
    placeRuns slots pool given = List.replicate (slots - pool) none ++ given.flatMap runOf ++
      List.replicate (pool - (given.map Prod.snd).sum) none := by
  have htop : slots - (slots - pool + (given.map Prod.snd).sum) = pool - (given.map Prod.snd).sum := by omega
  simp only [placeRuns, List.length_append, List.length_replicate, flatMap_runOf_length, htop]

theorem placeRuns_length {slots pool : Nat} {given : List (Stream × Nat)} (h : pool ≤ slots)
    (hfit : (given.map Prod.snd).sum ≤ pool) : (placeRuns slots pool given).length = slots := by
  simp only [placeRuns_eq given h, List.length_append, List.length_replicate, flatMap_runOf_length]
  omega

/-- The places of a run are all of one stream. -/
theorem slotsOf_runOf (id : Nat) (g : Stream × Nat) (order : List OrderEntry) (k : Nat) :
    SlotMap.slotsOf id { places := runOf g, order := order, pool := k } = if g.1.id = id then g.2 else 0 := by
  simp [SlotMap.slotsOf, runOf, List.countP_replicate]

/-- Where a function is 0 at every other entry of a list without repeats, its sum is its value at the one entry. -/
theorem sum_map_of_others_zero {α : Type} [DecidableEq α] {l : List α} {f : α → Nat} {a : α} (hn : l.Nodup) (ha : a ∈ l)
    (hother : ∀ x, x ≠ a → x ∈ l → f x = 0) : (l.map f).sum = f a := by
  rw [List.sum_map_eq_nsmul_single a f hother, List.count_eq_one_of_mem hn ha, one_nsmul]

/-- R140, R141: a map has as many places of a stream as the stream was given, no stream having two runs. -/
theorem slotsOf_placeRuns {slots pool k : Nat} {given : List (Stream × Nat)} {order : List OrderEntry}
    (hn : (given.map fun g => g.1.id).Nodup) {g : Stream × Nat} (hg : g ∈ given) :
    SlotMap.slotsOf g.1.id { places := placeRuns slots pool given, order := order, pool := k } = g.2 := by
  have hother (x : Stream × Nat) (hne : x ≠ g) (hx : x ∈ given) : (if x.1.id = g.1.id then x.2 else 0) = 0 :=
    if_neg fun hid => hne (List.inj_on_of_nodup_map hn hx hg hid)
  have hruns : (given.map fun x => if x.1.id = g.1.id then x.2 else 0).sum = g.2 :=
    (sum_map_of_others_zero hn.of_map hg hother).trans (if_pos rfl)
  simp only [SlotMap.slotsOf, placeRuns, List.countP_append, List.countP_replicate, List.countP_flatMap,
    Bool.false_eq_true, if_false, Nat.zero_add, Nat.add_zero]
  exact (congrArg List.sum (List.map_congr_left fun x _ => slotsOf_runOf _ x order k)).trans hruns

/-! ## The map built (R139 to R141) -/

/-- The slots given, as the map's order list and as the handing out have them. -/
theorem buildMap_given (k : Nat) (s : State) :
    (buildMap k s).order.map OrderEntry.given = (handOut s k (orderedStreams s)).map Prod.snd := by
  simp [buildMap]

theorem buildMap_slotsOf {k : Nat} {s : State} (hn : (s.rpc.streams.map Stream.id).Nodup) {o : OrderEntry}
    (ho : o ∈ (buildMap k s).order) : (buildMap k s).slotsOf o.stream = o.given := by
  obtain ⟨g, hg, rfl⟩ := List.mem_map.1 ho
  refine slotsOf_placeRuns ?_ hg
  have hids : ((handOut s k (orderedStreams s)).map Prod.fst).map Stream.id = (orderedStreams s).map Stream.id := by
    rw [handOut_map_fst]
  rw [List.map_map] at hids
  exact hids ▸ orderedStreams_ids_nodup hn

/-- R141: the runs are those of the streams of the order list, each as long as its entry says. -/
theorem buildMap_runs (k : Nat) (s : State) :
    (((orderedStreams s).zip (buildMap k s).order).flatMap fun x => List.replicate x.2.given
      (some { stream := x.1.id, padding := x.1.padding, alignment := x.1.alignment })) =
      (handOut s k (orderedStreams s)).flatMap runOf := by
  have hzip : (orderedStreams s).zip (buildMap k s).order = (handOut s k (orderedStreams s)).map fun g =>
      (g.1, { stream := g.1.id, born := g.1.born, given := g.2 }) :=
    calc (orderedStreams s).zip (buildMap k s).order
      _ = ((handOut s k (orderedStreams s)).map Prod.fst).zip (buildMap k s).order := by rw [handOut_map_fst]
      _ = _ := List.zip_map'
  rw [hzip, List.flatMap_map]
  rfl

theorem buildMap_places {k : Nat} {s : State} (h : k ≤ s.slots) :
    (buildMap k s).places = List.replicate (s.slots - k) none ++
      (((orderedStreams s).zip (buildMap k s).order).flatMap fun x => List.replicate x.2.given
        (some { stream := x.1.id, padding := x.1.padding, alignment := x.1.alignment })) ++
      List.replicate (k - ((buildMap k s).order.map OrderEntry.given).sum) none := by
  rw [buildMap_runs, buildMap_given]
  exact placeRuns_eq _ h

theorem buildMap_order_getElem? {k : Nat} {s : State} {i : Nat} {st : Stream} (h : (orderedStreams s)[i]? = some st) :
    (buildMap k s).order[i]? = some {
      stream := st.id
      born := st.born
      given := min (slotsAsked s st) (k - (((buildMap k s).order.take i).map OrderEntry.given).sum) } := by
  rw [List.map_take, buildMap_given, ← List.map_take]
  simp only [buildMap, List.getElem?_map, handOut_getElem? k h, Option.map_some]

/-- Settles O52: the order list is the sorted groups of streams, and the runs of places are what the pool gives down it. -/
theorem rebuiltMapFits : Obligations.RebuiltMapFits := by
  intro k s hk m
  have hfit : (m.order.map OrderEntry.given).sum ≤ k := by
    rw [buildMap_given]
    exact handOut_sum_le s k _
  refine ⟨rfl, placeRuns_length hk (handOut_sum_le s k _), hfit, fun hn o ho => buildMap_slotsOf hn ho,
    orderedStreams s, fun _ => mem_orderedStreams, ?_, ?_, buildMap_places hk, fun i st hst => ?_⟩
  · simpa only [before_eq_false_iff] using orderedStreams_pairwise s
  · have hlen := congrArg List.length (handOut_map_fst s k (orderedStreams s))
    rw [List.length_map] at hlen
    exact (List.length_map _).trans hlen
  · simpa only [slotsAsked_eq] using buildMap_order_getElem? hst

end Sys2Proof.Machine
end

section
/-! What no operation touches but the entry to LISTENING, a tick and a CLOCK frame: the Site Clock (08, R155 to R159). -/
namespace Sys2Proof.Machine

/-! ## The shared operations -/

/-- A fold keeps the Site Clock where each of its steps does. -/
theorem foldl_sck {α : Type} {f : State → α → State} (hf : ∀ s a, (f s a).sck = s.sck) (l : List α) (s : State) :
    (l.foldl f s).sck = s.sck := by
  induction l generalizing s with
  | nil => rfl
  | cons a l ih => exact (ih _).trans (hf s a)

@[simp] theorem addInflight_sck (e : Inflight) (s : State) : (addInflight e s).sck = s.sck := rfl
@[simp] theorem updateSegment_sck (i q : Nat) (f : SegmentRecord → SegmentRecord) (s : State) :
    (updateSegment i q f s).sck = s.sck := rfl
@[simp] theorem countSteerFailure_sck (s : State) : (countSteerFailure s).sck = s.sck := rfl
@[simp] theorem writeSeat_sck (i : Nat) (e : SeatEntry) (s : State) : (writeSeat i e s).sck = s.sck := rfl
@[simp] theorem removeStream_sck (i : Nat) (s : State) : (removeStream i s).sck = s.sck := rfl
@[simp] theorem setDeclineHold_sck (station : Nat) (s : State) : (setDeclineHold station s).sck = s.sck := rfl
@[simp] theorem activateRecord_sck (c : Nat) (s : State) : (activateRecord c s).sck = s.sck := rfl
@[simp] theorem restartIdle_sck (c : Nat) (s : State) : (restartIdle c s).sck = s.sck := rfl
@[simp] theorem withdrawWaiting_sck (c : Nat) (s : State) : (withdrawWaiting c s).sck = s.sck := rfl
@[simp] theorem nextFree_sck (s : State) : (nextFree s).sck = s.sck := rfl

/-! ## The association table (R26 to R46) -/

@[simp] theorem addRecord_sck (r : Record) (s : State) : (addRecord r s).sck = s.sck := recompute_sck _

@[simp] theorem deriveClass_sck (c : Nat) (s : State) : (deriveClass c s).sck = s.sck := by
  unfold deriveClass
  split <;> simp [apply_ite State.sck]

@[simp] theorem localAdmitted_sck (c : Nat) (b : Binding) (s : State) : (localAdmitted c b s).sck = s.sck := by
  unfold localAdmitted
  split <;> simp [apply_ite State.sck]

@[simp] theorem demote_sck (c q : Nat) (s : State) : (demote c q s).sck = s.sck := by
  unfold demote
  split <;> simp [apply_ite State.sck]

@[simp] theorem claimantFallback_sck (c : Nat) (s : State) : (claimantFallback c s).sck = s.sck := by
  unfold claimantFallback
  split <;> simp [apply_ite State.sck]

@[simp] theorem subscribe_sck (c stream : Nat) (s : State) : (subscribe c stream s).sck = s.sck := by
  unfold subscribe
  dsimp only
  split_ifs <;> simp

@[simp] theorem unsubscribe_sck (c stream : Nat) (s : State) : (unsubscribe c stream s).sck = s.sck := by
  unfold unsubscribe
  dsimp only
  split_ifs <;> simp

@[simp] theorem installStreams_sck (c : Nat) (l : List Nat) (s : State) : (installStreams c l s).sck = s.sck :=
  foldl_sck (fun s id => gainSubscriber_sck id s) _ _

@[simp] theorem takeDepart_sck (c : Nat) (s : State) : (takeDepart c s).sck = s.sck := by
  unfold takeDepart
  split <;> simp [apply_ite State.sck]

/-! ## The handoffs (R47 to R75) -/

@[simp] theorem pullEndsFresh_sck (lost : Bool) (c : Nat) (s : State) : (pullEndsFresh lost c s).sck = s.sck := by
  simp [pullEndsFresh, apply_ite State.sck]

@[simp] theorem secondAttempt_sck (e : Inflight) (s : State) : (secondAttempt e s).sck = s.sck := by
  unfold secondAttempt
  dsimp only
  split
  · simp
  · split <;> simp [apply_ite State.sck]

@[simp] theorem pullAttemptFails_sck (e : Inflight) (s : State) : (pullAttemptFails e s).sck = s.sck := by
  unfold pullAttemptFails
  split_ifs <;> simp

@[simp] theorem startPull_sck (c peer : Nat) (s : State) : (startPull c peer s).sck = s.sck := by
  unfold startPull
  dsimp only
  split <;> simp

@[simp] theorem takeGrant_sck (source : Nat) (g : GrantPayload) (s : State) : (takeGrant source g s).sck = s.sck := by
  unfold takeGrant
  split_ifs <;> simp

@[simp] theorem takeNone_sck (source c : Nat) (s : State) : (takeNone source c s).sck = s.sck := by
  unfold takeNone
  split_ifs <;> simp

@[simp] theorem takeHeld_sck (source c : Nat) (s : State) : (takeHeld source c s).sck = s.sck := by
  unfold takeHeld
  split_ifs <;> simp

@[simp] theorem removeGranted_sck (lost : Bool) (c : Nat) (s : State) : (removeGranted lost c s).sck = s.sck := by
  simp [removeGranted, apply_ite State.sck]

@[simp] theorem grantContext_sck (source since : Nat) (r : Record) (s : State) :
    (grantContext source since r s).sck = s.sck := by
  simp [grantContext, apply_ite State.sck]

@[simp] theorem abandonPull_sck (source c : Nat) (s : State) : (abandonPull source c s).sck = s.sck := by
  simp [abandonPull]

@[simp] theorem takePull_sck (source c since : Nat) (s : State) : (takePull source c since s).sck = s.sck := by
  unfold takePull
  split
  · split
    · rfl
    · split <;> simp [apply_ite State.sck]
  · rfl

@[simp] theorem offerEnds_sck (c : Nat) (s : State) : (offerEnds c s).sck = s.sck := by simp [offerEnds]

@[simp] theorem startOffer_sck (r : Record) (target : Nat) (s : State) : (startOffer r target s).sck = s.sck := by
  unfold startOffer
  dsimp only
  split <;> simp

@[simp] theorem steerEvaluate_sck (s : State) : (steerEvaluate s).sck = s.sck := by
  unfold steerEvaluate
  split
  · rfl
  · split
    · split <;> simp
    · rfl

@[simp] theorem takeAccept_sck (source c : Nat) (s : State) : (takeAccept source c s).sck = s.sck := by
  unfold takeAccept
  split_ifs <;> simp

@[simp] theorem takeDecline_sck (source c : Nat) (s : State) : (takeDecline source c s).sck = s.sck := by
  simp [takeDecline, apply_ite State.sck]

@[simp] theorem takeOffer_sck (source c : Nat) (seat : Option Nat) (s : State) : (takeOffer source c seat s).sck = s.sck := by
  unfold takeOffer
  split
  · rfl
  · split
    · split <;> simp
    · rfl

theorem responseExpiry_sck {kind : InflightKind} {c : Nat} {act : Inflight → State → State} {s : State}
    (hact : ∀ e u, (act e u).sck = u.sck) : (responseExpiry kind c act s).sck = s.sck := by
  unfold responseExpiry
  split <;> simp [hact, apply_ite State.sck]

/-! ## Admission (R27 to R33, R51) -/

@[simp] theorem answerAssociate_sck (c : Nat) (code : AssocCode) (cls : Option ClientClass) (s : State) :
    (answerAssociate c code cls s).sck = s.sck := astPlace_sck _ _

@[simp] theorem answerAccepted_sck (c : Nat) (code : AssocCode) (s : State) :
    (answerAccepted c code s).sck = s.sck := astPlace_sck _ _

@[simp] theorem waitOrRefuse_sck (q : AssocRequest) (s : State) : (waitOrRefuse q s).sck = s.sck := by
  unfold waitOrRefuse
  split_ifs <;> simp

@[simp] theorem associateExpected_sck (readmit : Bool) (r : Record) (q : AssocRequest) (s : State) :
    (associateExpected readmit r q s).sck = s.sck := by
  unfold associateExpected
  dsimp only
  split_ifs <;> simp

@[simp] theorem associateReleasing_sck (q : AssocRequest) (s : State) : (associateReleasing q s).sck = s.sck := by
  unfold associateReleasing
  split <;> simp

@[simp] theorem associateKnown_sck (readmit : Bool) (r : Record) (q : AssocRequest) (s : State) :
    (associateKnown readmit r q s).sck = s.sck := by
  unfold associateKnown
  split <;> simp

@[simp] theorem associateNew_sck (readmit : Bool) (q : AssocRequest) (s : State) :
    (associateNew readmit q s).sck = s.sck := by
  unfold associateNew
  split
  · simp [refuseFull]
  · split
    · simp
    · split_ifs <;> simp

@[simp] theorem associate_sck (readmit : Bool) (q : AssocRequest) (s : State) : (associate readmit q s).sck = s.sck := by
  unfold associate
  split
  · split <;> simp
  · split
    · split_ifs <;> simp
    · simp
  · simp
  · simp
  · rfl

/-! ## Check-in (R95 to R114) -/

@[simp] theorem updateSeat_sck (q : Nat) (f : SeatEntry → SeatEntry) (s : State) : (updateSeat q f s).sck = s.sck := by
  unfold updateSeat
  split <;> rfl

@[simp] theorem applyDecision_sck (c q : Nat) (d : Decision) (s : State) : (applyDecision c q d s).sck = s.sck := by
  unfold applyDecision
  split <;> simp

@[simp] theorem placeLocalResult_sck (p : Presentation) (code : CheckinCode) (n : Nat) (s : State) :
    (placeLocalResult p code n s).sck = s.sck := by
  unfold placeLocalResult stationGiven
  split_ifs <;> simp

@[simp] theorem placeOwnerResult_sck (c ticket seat : Nat) (code : CheckinCode) (owner n : Nat) (s : State) :
    (placeOwnerResult c ticket seat code owner n s).sck = s.sck := ckuPlace_sck _ _

@[simp] theorem refuseLocally_sck (p : Presentation) (code : CheckinCode) (n : Nat) (s : State) :
    (refuseLocally p code n s).sck = s.sck := by simp [refuseLocally]

@[simp] theorem presentLocally_sck (p : Presentation) (d : Decision) (s : State) : (presentLocally p d s).sck = s.sck := by
  unfold presentLocally
  dsimp only
  split <;> simp

@[simp] theorem startClaim_sck (p : Presentation) (owner : Nat) (s : State) : (startClaim p owner s).sck = s.sck := by
  unfold startClaim
  split
  · simp
  · dsimp only
    split <;> simp

@[simp] theorem presentActive_sck (c : NodeConfig) (r : Record) (p : Presentation) (s : State) :
    (presentActive c r p s).sck = s.sck := by
  unfold presentActive
  iterate 4
    split
    · simp
  split
  · simp
  · split <;> simp

@[simp] theorem present_sck (p : Presentation) (s : State) : (present p s).sck = s.sck := by
  unfold present
  dsimp only
  split <;> simp [apply_ite State.sck]

@[simp] theorem relayResult_sck (k : Claim) (code : CheckinCode) (s : State) : (relayResult k code s).sck = s.sck := by
  simp [relayResult, apply_ite State.sck]

@[simp] theorem endClaim_sck (k : Claim) (code : CheckinCode) (n : Nat) (s : State) : (endClaim k code n s).sck = s.sck := by
  unfold endClaim
  dsimp only
  split <;> simp [apply_ite State.sck]

@[simp] theorem takeVerdict_sck (source : Nat) (v : VerdictPayload) (s : State) : (takeVerdict source v s).sck = s.sck := by
  unfold takeVerdict
  split
  · split <;> simp
  · rfl

@[simp] theorem takeClaim_sck (source dest : Nat) (c : ClaimPayload) (s : State) :
    (takeClaim source dest c s).sck = s.sck := by
  unfold takeClaim
  split
  · split <;> simp
  · rfl

/-! ## Seat entitlements (R79 to R91) -/

@[simp] theorem countStale_sck (s : State) : (countStale s).sck = s.sck := rfl
@[simp] theorem refuseFrozen_sck (s : State) : (refuseFrozen s).sck = s.sck := rfl

@[simp] theorem replaceSeat_sck (c : NodeConfig) (i : Nat) (e : SeatEntry) (s : State) :
    (replaceSeat c i e s).sck = s.sck := by
  unfold replaceSeat
  dsimp only
  split <;> simp

theorem placeTicket_sck {c : NodeConfig} {index number : Nat} {apply : State → State} {s : State}
    (happly : ∀ x, (apply x).sck = x.sck) : (placeTicket c index number apply s).sck = s.sck := by
  unfold placeTicket
  split
  · exact happly s
  · split_ifs <;> simp [happly]

@[simp] theorem applyIssue_sck (c : NodeConfig) (index : Nat) (e : SeatEntry) (a : Entitlement) (s : State) :
    (applyIssue c index e a s).sck = s.sck := by
  unfold applyIssue
  split <;> exact placeTicket_sck fun x => by simp

@[simp] theorem applyVoid_sck (c : NodeConfig) (index : Nat) (e : SeatEntry) (a : Entitlement) (s : State) :
    (applyVoid c index e a s).sck = s.sck := by
  unfold applyVoid
  split
  · exact placeTicket_sck fun x => by simp
  all_goals simp

@[simp] theorem applyClear_sck (c : NodeConfig) (index : Nat) (e : SeatEntry) (a : Entitlement) (s : State) :
    (applyClear c index e a s).sck = s.sck := by
  unfold applyClear
  split <;> simp

@[simp] theorem applyFill_sck (index : Nat) (e : SeatEntry) (a : Entitlement) (s : State) :
    (applyFill index e a s).sck = s.sck := by
  unfold applyFill
  split <;> simp [apply_ite State.sck]

@[simp] theorem applyAction_sck (c : NodeConfig) (index : Nat) (e : SeatEntry) (a : Entitlement) (s : State) :
    (applyAction c index e a s).sck = s.sck := by
  unfold applyAction
  split <;> simp

@[simp] theorem takeEntitlement_sck (a : Entitlement) (s : State) : (takeEntitlement a s).sck = s.sck := by
  unfold takeEntitlement decideEntitlement
  split
  · rfl
  · split
    · split <;> simp [apply_ite State.sck]
    · rfl

@[simp] theorem takeFreeze_sck (target : Nat) (mask : BitVec 16) (s : State) : (takeFreeze target mask s).sck = s.sck := by
  unfold takeFreeze
  split_ifs <;> rfl

@[simp] theorem takeUnfreeze_sck (target : Nat) (mask : BitVec 16) (s : State) : (takeUnfreeze target mask s).sck = s.sck := by
  unfold takeUnfreeze
  split_ifs <;> rfl

/-! ## Replay (R116 to R151) -/

@[simp] theorem finishDraining_sck (id : Nat) (s : State) : (finishDraining id s).sck = s.sck := by
  unfold finishDraining
  split <;> simp [apply_ite State.sck]

@[simp] theorem withdrawStream_sck (id : Nat) (s : State) : (withdrawStream id s).sck = s.sck := by
  unfold withdrawStream
  split <;> simp [apply_ite State.sck]

@[simp] theorem takeAnnounce_sck (a : Announce) (s : State) : (takeAnnounce a s).sck = s.sck := by
  unfold takeAnnounce addStream
  split
  · rfl
  · split
    · rfl
    · split
      · simp [apply_ite State.sck]
      · split
        · rfl
        · split
          · rfl
          · split <;> rfl

@[simp] theorem takeChunkWithoutRecord_sck (st : Stream) (c : Chunk) (s : State) :
    (takeChunkWithoutRecord st c s).sck = s.sck := by
  unfold takeChunkWithoutRecord createSegment
  split_ifs
  · rfl
  · split <;> rfl
  · rfl

@[simp] theorem takeSegment_sck (c : Chunk) (s : State) : (takeSegment c s).sck = s.sck := by
  unfold takeSegment
  split
  · rfl
  · split
    · rfl
    · split
      · rfl
      · split
        · simp
        · split_ifs <;> simp [countMalformed, freeSegment]

@[simp] theorem endSegment_sck (id q : Nat) (s : State) : (endSegment id q s).sck = s.sck := by
  unfold endSegment
  dsimp only
  split <;> simp [apply_ite State.sck]

@[simp] theorem emitChunk_sck (p : Place) (r : SegmentRecord) (i : Nat) (s : State) : (emitChunk p r i s).sck = s.sck := by
  unfold emitChunk
  dsimp only
  split_ifs <;> simp

@[simp] theorem underrun_sck (p : Place) (st : Stream) (s : State) : (underrun p st s).sck = s.sck := by
  unfold underrun
  dsimp only
  split_ifs <;> simp

@[simp] theorem spendBehind_sck (id : Nat) (last : Option Nat) (s : State) : (spendBehind id last s).sck = s.sck := by
  unfold spendBehind
  split <;> rfl

@[simp] theorem lagCut_sck (id : Nat) (last : Option Nat) (s : State) : (lagCut id last s).sck = s.sck := by
  unfold lagCut
  dsimp only
  split_ifs <;> rfl

@[simp] theorem emitNext_sck (p : Place) (st : Stream) (s : State) : (emitNext p st s).sck = s.sck := by
  unfold emitNext
  dsimp only
  split <;> simp

@[simp] theorem emitSlot_sck (p : Place) (st : Stream) (s : State) : (emitSlot p st s).sck = s.sck := by
  unfold emitSlot
  split
  · simp
  · split <;> simp

@[simp] theorem handleSlot_sck (s : State) : (handleSlot s).sck = s.sck := by
  unfold handleSlot
  split
  · rfl
  · split
    · rfl
    · split_ifs <;> simp

@[simp] theorem gapDrop_sck (s : State) : (gapDrop s).sck = s.sck := by
  unfold gapDrop
  rw [raiseGaps_eq]
  rfl

@[simp] theorem startSlot_sck (slot : Nat) (s : State) : (startSlot slot s).sck = s.sck := rfl

@[simp] theorem startFrame_sck (s : State) : (startFrame s).sck = s.sck := by
  simp [startFrame, putInForce]

@[simp] theorem rebuild_sck (s : State) : (rebuild s).sck = s.sck := by
  rw [rebuild_eq]
  rfl

@[simp] theorem replayReset_sck (s : State) : (replayReset s).sck = s.sck := by
  unfold replayReset
  split
  · exact foldl_sck (fun s id => finishDraining_sck id s) _ s
  · rfl

/-! ## The RBC's reports (R48, R63, R175) and the row bus (R165 to R174) -/

@[simp] theorem grantEnded_sck (lost : Bool) (c : Nat) (s : State) : (grantEnded lost c s).sck = s.sck := by
  unfold grantEnded
  split
  · rfl
  · split
    · dsimp only
      split <;> simp
    · rfl

@[simp] theorem reportSent_sck (f : TxFrame) (s : State) : (reportSent f s).sck = s.sck := by
  unfold reportSent
  split <;> simp

@[simp] theorem reportDropped_sck (f : TxFrame) (s : State) : (reportDropped f s).sck = s.sck := by
  unfold reportDropped
  split
  · simp
  · split <;> simp
  · split <;> simp
  · split <;> simp
  all_goals rfl

@[simp] theorem enterMuted_sck (s : State) : (enterMuted s).sck = s.sck :=
  foldl_sck (fun s f => reportDropped_sck f s) _ _

@[simp] theorem addressClash_sck (s : State) : (addressClash s).sck = s.sck := by
  unfold addressClash
  dsimp only
  split_ifs <;> simp

@[simp] theorem collide_sck (t : Transmitter) (s : State) : (collide t s).sck = s.sck := by
  unfold collide
  dsimp only
  split_ifs <;> simp

@[simp] theorem takeAdvert_sck (source : Nat) (a : AdvertPayload) (s : State) : (takeAdvert source a s).sck = s.sck := by
  unfold takeAdvert
  split_ifs <;> rfl

end Sys2Proof.Machine
end

section
/-! A tick of the local advance (R155) and the two parts of a CLOCK frame (R156 to R160). -/
namespace Sys2Proof.Machine

/-! ## The local advance (R155) -/

theorem execSiteTimeTick_running {s : State} (h : s.sck.advancing = true) :
    execSiteTimeTick s = .next (s.withSck { s.sck with time := satAdd siteTimeMax s.sck.time 1 }) := if_pos h

theorem execSiteTimeTick_stopped {s : State} (h : s.sck.advancing = false) : execSiteTimeTick s = .next s :=
  if_neg (by simp [h])

/-- R155: the count stays at the greatest site time. -/
theorem satAdd_siteTimeMax : satAdd siteTimeMax 4294967295 1 = 4294967295 := rfl

theorem satAdd_siteTime {n : Nat} (h : n < 4294967295) : satAdd siteTimeMax n 1 = n + 1 := Nat.min_eq_right h

/-- Settles O10: the tick of a running advance is one count of a counter that saturates. -/
theorem siteTimeTickCounts : Obligations.SiteTimeTickCounts := by
  refine fun s => ⟨fun ha ht => ?_, fun ha ht => ?_, execSiteTimeTick_stopped⟩
  · exact (execSiteTimeTick_running ha).trans (by rw [satAdd_siteTime ht])
  · refine (execSiteTimeTick_running ha).trans ?_
    rw [ht, satAdd_siteTimeMax, ← ht]
    rfl

/-! ## The time part (R156, R157) -/

/-- R157: the notices after the time part of a CLOCK frame. -/
def noticesAfterTime (t : Nat) (s : State) : Ntu :=
  if t < s.sck.time ∧ 100 < s.sck.time - t then s.ntu.occur .clockDisagree else s.ntu

/-- R156, R157: the later of the two site times is held, and the time part touches nothing else but the notices. -/
theorem takeTime_eq (t : Nat) (s : State) :
    takeTime t s = (s.withSck { s.sck with time := max s.sck.time t }).withNtu (noticesAfterTime t s) := by
  unfold takeTime noticesAfterTime disagreeAbove
  by_cases hlater : s.sck.time < t
  · rw [if_pos hlater, if_neg (by omega), max_eq_right hlater.le]
    rfl
  · rw [if_neg hlater, max_eq_left (not_lt.1 hlater)]
    by_cases hfar : 100 < s.sck.time - t
    · rw [if_pos hfar, if_pos ⟨by omega, hfar⟩]
      rfl
    · rw [if_neg hfar, if_neg (mt And.right hfar)]
      rfl

/-! ## The phase part (R158 to R160) -/

/-- R158, R159: the phases that are adopted. -/
theorem phaseAdopted_iff (p held : Phase) :
    phaseAdopted p held = true ↔ held.code < p.code ∨ (held = .fullTime ∧ p = .preGates) := by
  simp [phaseAdopted, Phase.later]

/-- R158, R202: the phase held after the phase part of a CLOCK frame, which is absent where its code is out of range. -/
def phaseAfter (f : Option Phase) (held : Phase) : Phase :=
  match f with
  | some p => if phaseAdopted p held then p else held
  | none => held

theorem phaseAfter_adopted {p held : Phase} (h : phaseAdopted p held = true) : phaseAfter (some p) held = p := if_pos h

theorem phaseAfter_kept {p held : Phase} (h : ¬ phaseAdopted p held = true) : phaseAfter (some p) held = held := if_neg h

/-- R158: a phase moves forward, but from FULL_TIME to PRE_GATES. -/
theorem phaseAfter_forward (f : Option Phase) (held : Phase) :
    held.code ≤ (phaseAfter f held).code ∨ (held = .fullTime ∧ phaseAfter f held = .preGates) := by
  cases f with
  | none => exact .inl le_rfl
  | some p =>
    by_cases h : phaseAdopted p held = true
    · rw [phaseAfter_adopted h]
      exact ((phaseAdopted_iff p held).1 h).imp_left Nat.le_of_lt
    · rw [phaseAfter_kept h]
      exact .inl le_rfl

/-- R160: the Entitlement Store after the phase part of a CLOCK frame: the adoption of FIRST_HALF sets the flags of the mask. -/
def seatsAfterPhase (f : Option Phase) (s : State) : Ens :=
  if f = some .firstHalf ∧ phaseAdopted .firstHalf s.sck.phase then
    { s.ens with freeze := s.ens.freeze ||| autoFreezeMask s }
  else s.ens

theorem seatsAfterPhase_frozen {f : Option Phase} {s : State} (hf : f = some .firstHalf)
    (ha : phaseAdopted .firstHalf s.sck.phase = true) :
    seatsAfterPhase f s = { s.ens with freeze := s.ens.freeze ||| autoFreezeMask s } := if_pos ⟨hf, ha⟩

theorem seatsAfterPhase_kept {f : Option Phase} {s : State}
    (h : f ≠ some .firstHalf ∨ ¬ phaseAdopted .firstHalf s.sck.phase = true) : seatsAfterPhase f s = s.ens :=
  if_neg fun ⟨hf, ha⟩ => h.elim (· hf) (· ha)

/-- R158 to R160: the phase part touches the phase and the freeze map only. -/
theorem takePhase_eq (p : Phase) (s : State) :
    takePhase p s =
      (s.withSck { s.sck with phase := phaseAfter (some p) s.sck.phase }).withEns (seatsAfterPhase (some p) s) := by
  unfold takePhase
  by_cases ha : phaseAdopted p s.sck.phase = true
  · rw [if_pos ha, phaseAfter_adopted ha]
    by_cases hp : p = .firstHalf
    · subst hp
      rw [seatsAfterPhase_frozen rfl ha]
      rfl
    · rw [seatsAfterPhase_kept (.inl fun h => hp (Option.some.inj h))]
      exact if_neg hp
  · rw [if_neg ha, phaseAfter_kept ha, seatsAfterPhase_kept]
    · rfl
    · exact or_iff_not_imp_left.2 fun hp => Option.some.inj (not_not.1 hp) ▸ ha

/-! ## A CLOCK frame (R156) -/

/-- R156: a CLOCK frame that is taken, its two parts at once. -/
theorem takeClock_eq {s : State} (h : s.hearing = true) (t : Nat) (f : Option Phase) :
    takeClock t f s =
      ((s.withSck { s.sck with time := max s.sck.time t, phase := phaseAfter f s.sck.phase }).withEns
        (seatsAfterPhase f s)).withNtu (noticesAfterTime t s) := by
  rw [takeClock, if_pos h, takeTime_eq]
  cases f with
  | none => rfl
  | some p => exact takePhase_eq p _

theorem exec_clock {source time : Nat} {phase : Option Phase} {f : BusFrame} {s : State} (h : FrameTaken 32 source f s)
    (hr : readClock f.payload = some (time, phase)) :
    exec (.clock f) s = .next (takeClock time phase (carrierEnded s)) := by
  have hroute : route 32#8 source f.dest.toNat f.payload (carrierEnded s) = takeClock time phase (carrierEnded s) := by
    simp [route, hr]
  exact congrArg Host.Outcome.next ((receive_taken h).trans hroute)

/-- Settles O11: `takeClock_eq` gives the next state, and each clause reads one field of it. -/
theorem clockFrameTaken : Obligations.ClockFrameTaken := by
  intro source time phase f c s hf hh hc hr adopts
  have hadopts (p : Phase) : phaseAdopted p s.sck.phase = true ↔ adopts p := phaseAdopted_iff p s.sck.phase
  have hmask : autoFreezeMask (carrierEnded s) = c.freezeMask := by
    simp [autoFreezeMask, carrierEnded, hc]
  refine ⟨_, (exec_clock hf hr).trans (congrArg _ (takeClock_eq (s := carrierEnded s) hh time phase)), rfl, rfl, rfl, rfl,
    fun p hp ha => ?_, fun p hp ha => ?_, fun hp => ?_, fun hp ha => ?_, fun h => ?_⟩
  · subst hp
    exact phaseAfter_adopted ((hadopts p).2 ha)
  · subst hp
    exact phaseAfter_kept (mt (hadopts p).1 ha)
  · subst hp
    rfl
  · rw [← hmask]
    exact seatsAfterPhase_frozen (s := carrierEnded s) hp ((hadopts _).2 ha)
  · exact seatsAfterPhase_kept (s := carrierEnded s) (h.imp_right (mt (hadopts _).1))

end Sys2Proof.Machine
end

section
/-! R155, R158: what a command that is no full reset can do to the Site Clock. -/
namespace Sys2Proof.Machine

/-! ## The site time that a CLOCK frame carries (12.1) -/

theorem beNat_lt (l : List Byte) : beNat l < 256 ^ l.length := by
  induction l using List.reverseRecOn with
  | nil => exact Nat.one_pos
  | append_singleton l b ih =>
    have hb : b.toNat < 256 := b.isLt
    rw [beNat_append_one, List.length_append, List.length_singleton, Nat.pow_succ]
    omega

theorem fieldAt_lt (b : List Byte) (off len : Nat) : fieldAt b off len < 256 ^ len :=
  (beNat_lt _).trans_le (Nat.pow_le_pow_right (by decide) (List.length_take_le _ _))

/-- The site time of a CLOCK frame stands in four bytes. -/
theorem readClock_time_le {p : List Byte} {t : Nat} {f : Option Phase} (h : readClock p = some (t, f)) : t ≤ siteTimeMax := by
  obtain ⟨-, heq⟩ := Option.ite_none_right_eq_some.1 h
  have ht : fieldAt p 0 4 = t := congrArg Prod.fst (Option.some.inj heq)
  exact ht ▸ Nat.le_of_lt_succ (fieldAt_lt p 0 4)

/-! ## The changes of the Site Clock -/

/-- Everything a command that is no full reset can do to the Site Clock: nothing, the start of the local advance (R198), a tick
(R155), and a CLOCK frame (R156 to R158). -/
inductive ClockStep (c : Sck) : Sck → Prop where
  | same : ClockStep c c
  | starts : ClockStep c { c with advancing := true }
  | ticks : ClockStep c { c with time := satAdd siteTimeMax c.time 1 }
  | frame (t : Nat) (f : Option Phase) (ht : t ≤ siteTimeMax) :
      ClockStep c { c with time := max c.time t, phase := phaseAfter f c.phase }

theorem ClockStep.of_eq {c d : Sck} (h : d = c) : ClockStep c d := h ▸ .same

/-- R155, R157: the site time never runs back, and stays in its range. -/
theorem ClockStep.time {c d : Sck} (h : ClockStep c d) (hc : c.time ≤ siteTimeMax) :
    c.time ≤ d.time ∧ d.time ≤ siteTimeMax := by
  cases h with
  | same => exact ⟨le_rfl, hc⟩
  | starts => exact ⟨le_rfl, hc⟩
  | ticks => exact ⟨le_min hc (Nat.le_succ _), min_le_left _ _⟩
  | frame t f ht => exact ⟨le_max_left _ _, max_le hc ht⟩

/-- R158: the phase moves forward, but from FULL_TIME to PRE_GATES. -/
theorem ClockStep.phase {c d : Sck} (h : ClockStep c d) :
    c.phase.code ≤ d.phase.code ∨ (c.phase = .fullTime ∧ d.phase = .preGates) := by
  cases h with
  | frame t f ht => exact phaseAfter_forward f c.phase
  | same | starts | ticks => exact .inl le_rfl

/-! ## Received frames (R156, R165 to R167) -/

theorem takeClock_clockStep {t : Nat} (f : Option Phase) (s : State) (ht : t ≤ siteTimeMax) :
    ClockStep s.sck (takeClock t f s).sck := by
  by_cases h : s.hearing = true
  · rw [takeClock_eq h]
    exact .frame t f ht
  · rw [takeClock, if_neg h]
    exact .same

/-- R167: of the frames that are routed, only a CLOCK reaches the Site Clock. -/
theorem route_clockStep (kind : Byte) (source dest : Nat) (p : List Byte) (s : State) :
    ClockStep s.sck (route kind source dest p s).sck := by
  unfold route
  split
  case h_11 =>
    split
    · next hr => exact takeClock_clockStep _ s (readClock_time_le hr)
    · exact .same
  case h_17 => exact .same
  all_goals
    split
    · exact .of_eq (by simp)
    · exact .same

/-- R165: a frame reaches the node. -/
theorem receive_clockStep (kind : Byte) (f : BusFrame) (s : State) : ClockStep s.sck (receive kind f s).sck := by
  have hsettled : ClockStep (carrierEnded s).sck (settleFrame kind f (carrierEnded s)).sck := by
    unfold settleFrame
    split
    · exact .same
    · split
      · exact .of_eq (addressClash_sck _)
      · split
        · exact route_clockStep _ _ _ _ _
        · exact .same
  unfold receive
  split
  · exact .same
  · split
    · exact hsettled
    · exact .same

/-! ## The commands -/

/-- R198: the entry to LISTENING starts the local advance. -/
theorem enterListening_sck (raw : NodeConfig) (s : State) :
    (enterListening raw s).sck = { s.sck with advancing := true } :=
  (startFrame_sck _).trans (recompute_sck _)

theorem enterJoined_sck (c : NodeConfig) (s : State) : (enterJoined c s).sck = s.sck := by simp [enterJoined]

theorem clockStep_of_next {s u t : State} (h : Host.Outcome.next (φ := Fault) (ρ := Refusal) u = .next t)
    (hu : ClockStep s.sck u.sck) : ClockStep s.sck t.sck := by
  cases h
  exact hu

/-- R181: the taking of a request. -/
theorem takeRequest_clockStep {α : Type} {kind : Nat} {read : List Byte → Option α} {act : α → State → State} {s t : State}
    (h : takeRequest kind read act s = .next t) (hact : ∀ a u, (act a u).sck = u.sck) : ClockStep s.sck t.sck := by
  unfold takeRequest at h
  split at h
  · exact clockStep_of_next h .same
  · split at h
    · exact clockStep_of_next h .same
    · exact clockStep_of_next h (.of_eq (hact _ _))

theorem takeNotice_clockStep {op : Nat → Bool} {act : BitVec 32 → Ntu → Ntu} {s t : State}
    (h : takeNotice op act s = .next t) : ClockStep s.sck t.sck := by
  unfold takeNotice at h
  split at h
  · exact clockStep_of_next h .same
  · split at h
    · split at h <;> exact clockStep_of_next h .same
    · exact clockStep_of_next h .same

theorem execImageReadComplete_clockStep {image : List Byte} {s t : State} (h : execImageReadComplete image s = .next t) :
    ClockStep s.sck t.sck := by
  unfold execImageReadComplete at h
  split at h
  · dsimp only at h
    split at h
    · exact clockStep_of_next h .same
    · exact clockStep_of_next h (enterListening_sck _ s ▸ .starts)
  · exact clockStep_of_next h .same

theorem execSiteTimeTick_clockStep {s t : State} (h : execSiteTimeTick s = .next t) : ClockStep s.sck t.sck := by
  unfold execSiteTimeTick at h
  split at h
  · exact clockStep_of_next h .ticks
  · exact clockStep_of_next h .same

/-- Command by command: the image, a tick and a received frame can change the Site Clock, and every other command leaves it as it
was. -/
theorem exec_clockStep {i : Instr} {s t : State} (hi : ∀ strap, i ≠ .fullReset strap) (h : exec i s = .next t) :
    ClockStep s.sck t.sck := by
  cases i with
  | fullReset strap => exact absurd rfl (hi strap)
  | imageReadComplete image => exact execImageReadComplete_clockStep h
  | siteTimeTick => exact execSiteTimeTick_clockStep h
  | loadAdvert f | ctxPull f | ctxGrant f | ctxNone f | ctxHeld f | steerOffer f | steerAccept f | steerDecline f
  | checkinClaim f | checkinVerdict f | checkinNote f | incident f | resyncRequest f | issue f | reissue f | void f
  | clearCheckin f | resyncFill f | invalidEntitlementCode f | freeze f | unfreeze f | clock f | streamAnnounce f
  | segment f | unknownKindFrame kind f => exact clockStep_of_next h (receive_clockStep _ _ _)
  | carrierEnd run =>
    simp only [exec, execCarrierEnd] at h
    split at h
    · split at h <;> exact clockStep_of_next h .same
    · exact clockStep_of_next h (receive_clockStep _ _ _)
  | associate => exact takeRequest_clockStep h (associate_sck false)
  | heard => exact takeRequest_clockStep h fun _ _ => rfl
  | depart => exact takeRequest_clockStep h takeDepart_sck
  | presentTicket => exact takeRequest_clockStep h present_sck
  | subscribe => exact takeRequest_clockStep h fun a => subscribe_sck a.1 a.2
  | unsubscribe => exact takeRequest_clockStep h fun a => unsubscribe_sck a.1 a.2
  | replayReset => exact takeRequest_clockStep h fun _ => replayReset_sck
  | statusQuery => exact takeRequest_clockStep h fun _ _ => rfl
  | enable => exact takeNotice_clockStep (op := (· == 0)) h
  | disable => exact takeNotice_clockStep (op := (· == 1)) h
  | ack => exact takeNotice_clockStep (op := (· == 2)) h
  | globalOn => exact takeNotice_clockStep (op := (· == 3)) (act := fun _ n => { n with globalEnable := true }) h
  | globalOff => exact takeNotice_clockStep (op := (· == 4)) (act := fun _ n => { n with globalEnable := false }) h
  | clearAll => exact takeNotice_clockStep (op := (· == 5)) h
  | noticeControlBadOperation => exact takeNotice_clockStep (op := fun op => decide (5 < op)) (act := fun _ n => n) h
  | pullResponseTimeout c => exact clockStep_of_next h (.of_eq (responseExpiry_sck pullAttemptFails_sck))
  | offerResponseTimeout c => exact clockStep_of_next h (.of_eq (responseExpiry_sck fun e => offerEnds_sck e.client))
  | declineHoldExpiry _ | basebandReady _ | carrierStart => exact clockStep_of_next h .same
  | imageReadFailed | frameStart | slotStart | lastSlotStart | advertTimerExpiry | jamWatchExpiry | recordTaken
  | linkRecordArrival kind body check =>
    simp only [exec, execImageReadFailed, execFrameStart, execSlotStart, execLastSlotStart, execAdvertTimerExpiry,
      execJamWatchExpiry, execRecordTaken, execLinkRecordArrival] at h
    split at h <;> exact clockStep_of_next h (.of_eq (by simp [enterUnconfigured]))
  | holdOffTimerExpiry =>
    simp only [exec, execHoldOffTimerExpiry] at h
    split at h
    · exact clockStep_of_next h .same
    · exact clockStep_of_next h (.of_eq (by split <;> simp))
  | listenTimerExpiry | ageTimerExpiry n | idleTimerExpiry n | claimantTimerExpiry n | expectationHoldExpiry n
  | steerHoldExpiry n | claimTimerExpiry n | backoffEnd | collision | frameSent | waitQueueHead | unknownKindRecord
  | hoeBacklogMove | ckuBacklogMove | astBacklogMove | streamEnded | noticeDelivery =>
    simp only [exec, execListenTimerExpiry, execAgeTimerExpiry, execIdleTimerExpiry, execClaimantTimerExpiry,
      execExpectationHoldExpiry, execSteerHoldExpiry, execClaimTimerExpiry, execBackoffEnd, execCollision, execFrameSent,
      execWaitQueueHead, execUnknownKindRecord, execHoeBacklogMove, execCkuBacklogMove, execAstBacklogMove, execStreamEnded,
      execNoticeDelivery] at h
    split at h
    · exact clockStep_of_next h .same
    · split at h <;> exact clockStep_of_next h (.of_eq (by simp [enterJoined_sck, reject]))
  | txStart idle =>
    simp only [exec, execTxStart] at h
    split at h
    · split at h <;> exact clockStep_of_next h .same
    · exact clockStep_of_next h .same
  | retryAttemptStart idle =>
    simp only [exec, execRetryAttemptStart] at h
    split at h
    · exact clockStep_of_next h .same
    · split at h
      · split at h <;> exact clockStep_of_next h .same
      · exact clockStep_of_next h .same

/-- Settles O12: each change of the Site Clock that `exec_clockStep` leaves possible keeps the time in its range, and moves neither
the time nor the phase back. -/
theorem clockMovesForward : Obligations.ClockMovesForward := by
  intro i s t hs hi h
  have hstep := exec_clockStep hi h
  obtain ⟨hforward, hrange⟩ := hstep.time hs
  exact ⟨hrange, hforward, hstep.phase⟩

end Sys2Proof.Machine
end

section
/-! R164, R165, R176: another station's carrier, the runs that are no frame, and the jam watch. -/
namespace Sys2Proof.Machine

/-! ## Runs that reach the receiver (R165) -/

theorem receive_while_sending {kind : Byte} {f : BusFrame} {s : State} (hs : s.rbc.sends = true) : receive kind f s = s :=
  if_pos hs

theorem receive_receiver_off {kind : Byte} {f : BusFrame} {s : State} (hs : s.rbc.sends = false)
    (hr : s.rbc.receiver = false) : receive kind f s = carrierEnded s := by
  simp [receive, hs, hr]

/-- R165, steps 1 and 2: a damaged frame counts one error and goes no further. -/
theorem settleFrame_damaged {kind : Byte} {f : BusFrame} (s : State) (hg : frameGood kind f = false) :
    settleFrame kind f s = countCrcError s :=
  if_pos (by simp [hg])

/-! ## The end of a run (R164) -/

theorem isFragment_iff (run : List Byte) : isFragment run = true ↔ run.length < 7 := decide_eq_true_iff

theorem exec_carrierEnd_fragment {run : List Byte} (s : State) (hrun : run.length < 7) :
    exec (.carrierEnd run) s = if s.rbc.sends then .next s else .next (carrierEnded s) :=
  if_pos ((isFragment_iff run).2 hrun)

theorem exec_carrierEnd_received {run : List Byte} (s : State) (hrun : 7 ≤ run.length) :
    exec (.carrierEnd run) s = .next (receive (kindOfRun run) (frameOfRun run) s) :=
  if_neg (mt (isFragment_iff run).1 (Nat.not_lt.2 hrun))

theorem exec_carrierEnd_sending (run : List Byte) {s : State} (hs : s.rbc.sends = true) :
    exec (.carrierEnd run) s = .next s := by
  rcases Nat.lt_or_ge run.length 7 with hshort | hlong
  · exact (exec_carrierEnd_fragment s hshort).trans (if_pos hs)
  · rw [exec_carrierEnd_received s hlong, receive_while_sending hs]

/-- R164, R165: a run ends without any other effect when it is a fragment, when the receiver is off, and when the node was driving
it. -/
theorem exec_carrierEnd_quiet {run : List Byte} {s : State} (hs : s.rbc.sends = false)
    (hq : run.length < 7 ∨ s.rbc.receiver = false ∨ s.rbc.ownRun = true) :
    exec (.carrierEnd run) s = .next (carrierEnded s) := by
  rcases Nat.lt_or_ge run.length 7 with hshort | hlong
  · exact (exec_carrierEnd_fragment s hshort).trans (if_neg (by simp [hs]))
  · rw [exec_carrierEnd_received s hlong]
    rcases hq with hshort | hoff | hown
    · exact absurd hshort (Nat.not_lt.2 hlong)
    · rw [receive_receiver_off hs hoff]
    · rw [receive_own_run hs hown]

theorem exec_carrierEnd_damaged {run : List Byte} {s : State} (hs : s.rbc.sends = false) (hrun : 7 ≤ run.length)
    (hr : s.rbc.receiver = true) (ho : s.rbc.ownRun = false)
    (hbad : frameGood (kindOfRun run) (frameOfRun run) = false) :
    exec (.carrierEnd run) s = .next (countCrcError (carrierEnded s)) := by
  rw [exec_carrierEnd_received s hrun, receive_settled hs hr ho, settleFrame_damaged _ hbad]

/-! ## The jam watch (R176) -/

theorem exec_jamWatchExpiry_raises {s : State} (hr : s.rbc.receiver = true) (hc : s.rbc.carrier = true)
    (hj : s.rbc.jamReported = false) :
    exec .jamWatchExpiry s = .next (raise .jammed (s.withRbc { s.rbc with jamReported := true })) :=
  if_pos ⟨hr, hc, hj⟩

/-- R176: the watch runs only with the receiver on and carrier present, and reports once. -/
theorem exec_jamWatchExpiry_idle {s : State}
    (h : s.rbc.receiver = false ∨ s.rbc.carrier = false ∨ s.rbc.jamReported = true) : exec .jamWatchExpiry s = .next s := by
  refine if_neg fun ⟨hr, hc, hj⟩ => ?_
  rcases h with hoff | hquiet | hreported
  · simp [hoff] at hr
  · simp [hquiet] at hc
  · simp [hreported] at hj

/-- Settles O56, from the ends of a run by what the run is, and the two outcomes of the jam watch. -/
theorem carrierComesAndGoes : Obligations.CarrierComesAndGoes := by
  intro run s quiet
  exact ⟨rfl, fun hs => ⟨exec_carrierEnd_quiet hs, exec_carrierEnd_damaged hs⟩, exec_carrierEnd_sending run,
    exec_jamWatchExpiry_raises, exec_jamWatchExpiry_idle⟩

end Sys2Proof.Machine
end

section
/-! R191: the STATUS_REPLY, and why its counts by class and by state each add up to the total (R45). -/
namespace Sys2Proof.Machine

/-- Where every element of a list has its key among keys without repeats, the counts by key add up to the list's length. -/
theorem sum_countP_keys {α β : Type} [DecidableEq β] {key : α → β} {keys : List β} (hn : keys.Nodup) (l : List α)
    (hall : ∀ x ∈ l, key x ∈ keys) : (keys.map fun k => l.countP fun x => key x == k).sum = l.length := by
  induction l with
  | nil => simp
  | cons a l ih =>
    have hone : (keys.map fun k => if key a == k then 1 else 0).sum = 1 :=
      (sum_map_of_others_zero hn (hall a (by simp)) fun k hk _ => if_neg (by simpa using hk.symm)).trans
        (if_pos (beq_self_eq_true _))
    simp only [List.countP_cons, List.sum_map_add, hone, ih fun x hx => hall x (by simp [hx]), List.length_cons]

theorem sum_recordsOf (s : State) : ([.guest, .claimant, .home].map (recordsOf s)).sum = s.clients :=
  sum_countP_keys (key := Record.cls) (by decide) s.ast.records fun r _ => by cases r.cls <;> decide

theorem sum_recordsIn (s : State) :
    ([.expected, .pulling, .active, .offering, .steered, .releasing].map (recordsIn s)).sum = s.clients :=
  sum_countP_keys (key := Record.state) (by decide) s.ast.records fun r _ => by cases r.state <;> decide

/-- R181, R191: a STATUS_QUERY whose turn has come is answered with the values as they stand: that the record has left the inbound
queue is no part of them. -/
theorem exec_statusQuery {rest : List LinkRecord} {s : State} (h : RequestNext 72 [] rest s) :
    exec .statusQuery s = .next (placeOnLane (.statusReply (statusOf s)) (requestGone rest s)) :=
  takeRequest_next (a := ()) readNothing (fun _ u => placeOnLane (.statusReply (statusOf u)) u) (by omega) h rfl

/-- Settles O9: the reply is `statusOf`, whose counts add up by `sum_recordsOf` and `sum_recordsIn`. -/
theorem statusQueryAnswered : Obligations.StatusQueryAnswered := by
  intro rest s h
  exact ⟨statusOf s, exec_statusQuery h, ⟨rfl, rfl, rfl, rfl, rfl, rfl, rfl, rfl⟩, ⟨rfl, rfl, pool_eq s, rfl, rfl⟩,
    ⟨rfl, rfl, sum_recordsOf s, sum_recordsIn s, rfl, rfl, rfl⟩, ⟨rfl, rfl, rfl⟩, ⟨rfl, rfl, rfl⟩,
    rfl, rfl, rfl, rfl, rfl, rfl, rfl, rfl, rfl, rfl⟩

end Sys2Proof.Machine
end

section
/-! The Notice Unit: its cells by kind, what each NOTICE_CONTROL operation makes of the cells and the group flags, and the delivery
of a NOTICE (R186 to R189, R202). -/
namespace Sys2Proof.Machine

/-! ## Group flags -/

theorem GroupFlags.get_put (f : GroupFlags) (k g : NoticeGroup) (b : Bool) :
    (f.put k b).get g = if g = k then b else f.get g := by
  cases k <;> cases g <;> rfl

theorem GroupFlags.get_mapGroups (h : NoticeGroup → Bool → Bool) (f : GroupFlags) (g : NoticeGroup) :
    (f.mapGroups h).get g = h g (f.get g) := by
  cases g <;> rfl

/-! ## Cells

A unit that meets the invariant holds one cell for every kind, in the order of the codes. -/

theorem NoticeKind.mem_all (k : NoticeKind) : k ∈ NoticeKind.all := by
  cases k <;> decide

theorem NoticeKind.all_nodup : NoticeKind.all.Nodup := by decide

theorem Ntu.cell_kind (n : Ntu) (k : NoticeKind) : (n.cell k).kind = k := by
  unfold Ntu.cell
  cases h : n.kinds.find? fun c => c.kind == k with
  | none => rfl
  | some c => exact beq_iff_eq.1 (List.find?_some (p := fun c : NoticeCell => c.kind == k) h)

section Cells
variable {n : Ntu} (hn : n.kinds.map NoticeCell.kind = NoticeKind.all)
include hn

theorem Ntu.find_isSome (k : NoticeKind) : (n.kinds.find? fun c => c.kind == k).isSome := by
  obtain ⟨c, hc, hk⟩ := List.mem_map.1 (hn ▸ k.mem_all)
  exact List.find?_isSome.2 ⟨c, hc, beq_iff_eq.2 hk⟩

/-- The cells are those of the kinds, in the order of the codes. -/
theorem Ntu.kinds_eq : n.kinds = NoticeKind.all.map n.cell := by
  have hcell (c : NoticeCell) (hc : c ∈ n.kinds) : n.cell c.kind = c := by
    obtain ⟨x, hx⟩ := Option.isSome_iff_exists.1 (find_isSome hn c.kind)
    have hcx : n.cell c.kind = x := by simp [Ntu.cell, hx]
    exact List.inj_on_of_nodup_map (hn ▸ NoticeKind.all_nodup) (hcx ▸ List.mem_of_find?_eq_some hx) hc (n.cell_kind _)
  rw [← hn, List.map_map]
  exact ((List.map_congr_left hcell).trans (List.map_id _)).symm

/-- A change of every cell that keeps the kinds changes the cell of each kind. -/
theorem Ntu.cell_of_map {m : Ntu} {f : NoticeCell → NoticeCell} (hf : ∀ c, (f c).kind = c.kind)
    (hm : m.kinds = n.kinds.map f) (k : NoticeKind) : m.cell k = f (n.cell k) := by
  obtain ⟨c, hc⟩ := Option.isSome_iff_exists.1 (find_isSome hn k)
  simp [Ntu.cell, hm, List.find?_map, hf, hc]

theorem Ntu.kinds_of_map {m : Ntu} {f : NoticeCell → NoticeCell} (hf : ∀ c, (f c).kind = c.kind)
    (hm : m.kinds = n.kinds.map f) : m.kinds.map NoticeCell.kind = NoticeKind.all := by
  rw [hm, List.map_map, ← hn]
  exact List.map_congr_left fun c _ => hf c

theorem Ntu.any_kinds (p : NoticeCell → Bool) : n.kinds.any p = NoticeKind.all.any fun k => p (n.cell k) := by
  rw [kinds_eq hn, List.any_map]
  rfl

theorem Ntu.groupPending_eq (g : NoticeGroup) :
    n.groupPending g = NoticeKind.all.any fun k => k.group == g && (n.cell k).pending := by
  simp only [Ntu.groupPending, any_kinds hn, cell_kind]

/-- R188: a NOTICE reports the pending kinds of its group in the order of the codes. -/
theorem Ntu.entries_eq (g : NoticeGroup) :
    n.entries g = (NoticeKind.all.filter fun k => k.group == g && (n.cell k).pending).map fun k =>
      (k, (n.cell k).counter) := by
  simp only [Ntu.entries, kinds_eq hn, List.filter_map, List.map_map, Function.comp_def, cell_kind]

end Cells

/-! ## An occurrence (R186) -/

theorem Ntu.occur_cell_other {n : Ntu} (hn : n.kinds.map NoticeCell.kind = NoticeKind.all) {k k' : NoticeKind}
    (hk : k' ≠ k) : (n.occur k).cell k' = n.cell k' := by
  have hkind (c : NoticeCell) : (if c.kind = k then c.occur else c).kind = c.kind := by split <;> rfl
  exact (cell_of_map hn hkind rfl k').trans (if_neg (by rwa [cell_kind]))

theorem Ntu.occur_get (n : Ntu) (k : NoticeKind) (g : NoticeGroup) : (n.occur k).groups.get g =
    (n.groups.get g || (k.group == g && !(n.cell k).pending && (n.cell k).enabled)) := by
  rw [occur_groups]
  by_cases hfires : (n.cell k).pending = false ∧ (n.cell k).enabled = true
  · rw [if_pos hfires, GroupFlags.get_put]
    by_cases hg : g = k.group
    · simp [hg, hfires]
    · simp [hg, Ne.symm hg]
  · rw [if_neg hfires]
    have hquiet : (!(n.cell k).pending && (n.cell k).enabled) = false := by simpa using hfires
    rw [Bool.and_assoc, hquiet, Bool.and_false, Bool.or_false]

/-! ## The operations of NOTICE_CONTROL (R187, R189) -/

section Operations
variable {n : Ntu} (hn : n.kinds.map NoticeCell.kind = NoticeKind.all) (mask : BitVec 32)

theorem namedChanged_kind {f : NoticeCell → NoticeCell} (hf : ∀ c, (f c).kind = c.kind) (c : NoticeCell) :
    (if maskNames mask c.kind then f c else c).kind = c.kind := by
  split
  · exact hf c
  · rfl

include hn

/-- A change of the cells of the kinds that a mask names. -/
theorem Ntu.cell_of_named {m : Ntu} (f : NoticeCell → NoticeCell) (hf : ∀ c, (f c).kind = c.kind)
    (hm : m.kinds = n.kinds.map fun c => if maskNames mask c.kind then f c else c) (k : NoticeKind) :
    m.cell k = if maskNames mask k then f (n.cell k) else n.cell k := by
  rw [cell_of_map hn (namedChanged_kind mask hf) hm, cell_kind]

theorem Ntu.enable_cell (k : NoticeKind) :
    (n.enable mask).cell k = { n.cell k with enabled := (n.cell k).enabled || maskNames mask k } := by
  rw [cell_of_named hn mask (fun c => { c with enabled := true }) (fun _ => rfl) rfl]
  cases maskNames mask k <;> simp

/-- R187: an ENABLE sets the flag of a group with a kind that it turns on and that is pending. -/
theorem Ntu.enable_get (g : NoticeGroup) : (n.enable mask).groups.get g =
    (n.groups.get g || NoticeKind.all.any fun k =>
      k.group == g && maskNames mask k && !(n.cell k).enabled && (n.cell k).pending) := by
  simp only [Ntu.enable, GroupFlags.get_mapGroups, any_kinds hn, cell_kind]

theorem Ntu.disable_cell (k : NoticeKind) :
    (n.disable mask).cell k = { n.cell k with enabled := (n.cell k).enabled && !maskNames mask k } := by
  rw [cell_of_named hn mask (fun c => { c with enabled := false }) (fun _ => rfl) rfl]
  cases maskNames mask k <;> simp

theorem Ntu.ack_cell (k : NoticeKind) :
    (n.ack mask).cell k = { n.cell k with pending := (n.cell k).pending && !maskNames mask k } := by
  rw [cell_of_named hn mask (fun c => { c with pending := false }) (fun _ => rfl) rfl]
  cases maskNames mask k <;> simp

/-- R189: after an ACK a group's flag stays set only where a kind of the group is still pending. -/
theorem Ntu.ack_get (g : NoticeGroup) : (n.ack mask).groups.get g =
    (n.groups.get g && NoticeKind.all.any fun k => k.group == g && (n.cell k).pending && !maskNames mask k) := by
  have hflag : (n.ack mask).groups.get g = (n.groups.get g && (n.ack mask).groupPending g) :=
    GroupFlags.get_mapGroups _ n.groups g
  have hkinds : (n.ack mask).kinds.map NoticeCell.kind = NoticeKind.all :=
    kinds_of_map hn (namedChanged_kind mask (f := fun c => { c with pending := false }) fun _ => rfl) rfl
  simp only [hflag, groupPending_eq hkinds, ack_cell hn, Bool.and_assoc]

theorem Ntu.clearAll_cell (k : NoticeKind) : n.clearAll.cell k = { n.cell k with pending := false, counter := 0 } :=
  cell_of_map (f := fun c => { c with pending := false, counter := 0 }) hn (fun _ => rfl) rfl k

end Operations

/-- R181: a NOTICE_CONTROL whose turn has come, at the command of its operation. -/
theorem takeNotice_next {op : Nat → Bool} {body : List Byte} {rest : List LinkRecord} {s : State}
    (act : BitVec 32 → Ntu → Ntu) (h : RequestNext 71 body rest s) (hop : op (fieldAt body 0 1) = true)
    (hlen : body.length = 5) :
    takeNotice op act s = .next ((requestGone rest s).withNtu (act (BitVec.ofNat 32 (fieldAt body 1 4)) s.ntu)) := by
  have hread : readNotice body = some (BitVec.ofNat 32 (fieldAt body 1 4)) := if_pos hlen
  have hbyte : noticeOperation body = fieldAt body 0 1 := noticeOperation_of_ne_nil (by rintro rfl; simp at hlen)
  simp only [takeNotice, headRequest_next (by omega) h, hbyte, hop, if_true, hread, popRequest_next h]

/-! ## Delivery (R188) -/

theorem noticeTurn_iff (s : State) : noticeTurn s = true ↔
    (((s.rsl.lane.length < 64 ∧ s.hoe.backlog = []) ∧ s.cku.backlog = []) ∧ s.rsl.astBacklog = []) ∧
      s.rpc.endReports = [] := by
  rw [noticeTurn, Bool.and_eq_true, endReportTurn_iff, List.isEmpty_iff]

/-- R188: the set group flag with the least code is the one delivered next. -/
theorem Ntu.nextGroup_least {n : Ntu} {g : NoticeGroup} (he : n.globalEnable = true) (hg : n.groups.get g = true)
    (hleast : ∀ g', n.groups.get g' = true → g.code ≤ g'.code) : n.nextGroup = some g := by
  have hlower (g' : NoticeGroup) (hlt : g'.code < g.code) : n.groups.get g' = false :=
    Bool.eq_false_iff.2 fun hset => Nat.not_le.2 hlt (hleast g' hset)
  rw [Ntu.nextGroup, if_pos he]
  simp only [NoticeGroup.code] at hlower
  cases g <;> simp [NoticeGroup.all, hg, hlower]

theorem exec_noticeDelivery_off {s : State} (h : s.ntu.globalEnable = false) : exec .noticeDelivery s = .next s := by
  simp only [exec, execNoticeDelivery, nextGroup_none s.ntu (.inl h)]

theorem exec_noticeDelivery {g : NoticeGroup} {s : State} (hg : s.ntu.nextGroup = some g) (ht : noticeTurn s = true) :
    exec .noticeDelivery s = .next (placeOnLane (.notice g (s.ntu.entries g))
      (s.withNtu { s.ntu with groups := s.ntu.groups.put g false })) := by
  simp only [exec, execNoticeDelivery, hg, ht, if_true]

theorem GroupFlags.get_put_false (f : GroupFlags) (g g' : NoticeGroup) :
    (f.put g false).get g' = (f.get g' && g' != g) := by
  rw [get_put]
  by_cases hg : g' = g <;> simp [hg]

/-- Settles O60: the cells and the group flags after an occurrence, after each operation, and the delivery. -/
theorem noticesControlled : Obligations.NoticesControlled := by
  intro body rest s hn u named control taken
  have htaken (op : Nat) (act : BitVec 32 → Ntu → Ntu) {i : Instr} (hexec : exec i s = takeNotice (· == op) act s)
      (hc : control op) : taken i (act (BitVec.ofNat 32 (fieldAt body 1 4)) s.ntu) := by
    obtain ⟨hnext, hlen, hop⟩ := hc
    exact hexec.trans (takeNotice_next act hnext (beq_iff_eq.2 hop) hlen)
  refine ⟨fun k => ⟨occur_cell s.ntu k (Ntu.find_isSome hn k), fun k' => Ntu.occur_cell_other hn, rfl,
      Ntu.occur_get s.ntu k⟩,
    fun hc => ⟨_, htaken 0 Ntu.enable rfl hc, rfl, Ntu.enable_cell hn _, Ntu.enable_get hn _⟩,
    fun hc => ⟨_, htaken 1 Ntu.disable rfl hc, rfl, rfl, Ntu.disable_cell hn _⟩,
    fun hc => ⟨_, htaken 2 Ntu.ack rfl hc, rfl, Ntu.ack_cell hn _, Ntu.ack_get hn _⟩,
    htaken 3 (fun _ n => { n with globalEnable := true }) rfl,
    htaken 4 (fun _ n => { n with globalEnable := false }) rfl,
    fun hc => ⟨_, htaken 5 (fun _ n => n.clearAll) rfl hc, rfl, rfl, Ntu.clearAll_cell hn⟩,
    fun op hbad hc => ?_, exec_noticeDelivery_off, fun g he hg hleast hroom h1 h2 h3 h4 => ?_⟩
  · obtain ⟨hnext, hlen, hop⟩ := hc
    exact takeNotice_next (op := fun op => decide (5 < op)) (fun _ n => n) hnext (decide_eq_true (hop ▸ hbad)) hlen
  · exact ⟨_, _, exec_noticeDelivery (Ntu.nextGroup_least he hg hleast)
        ((noticeTurn_iff s).2 ⟨⟨⟨⟨hroom, h1⟩, h2⟩, h3⟩, h4⟩), Ntu.entries_eq hn g, rfl, he,
      GroupFlags.get_put_false s.ntu.groups g⟩

end Sys2Proof.Machine
end

section
/-! The faults of the image and the clamps of the configuration (R193, R194, R196, R197). -/
namespace Sys2Proof.Machine

/-! ## The first fault (R193, R194) -/

section Faults

variable {b : List Byte}

theorem imageFault_badSum (hsum : byteSum b ≠ 0) : imageFault b = some .badSum := if_pos hsum

theorem imageFault_badFormat (hsum : byteSum b = 0) (hformat : fieldAt b 0 1 ≠ 1) : imageFault b = some .badFormat :=
  (if_neg (not_not.2 hsum)).trans (if_pos hformat)

/-- R194: behind the sum and the format the fields of the image are checked. -/
theorem imageFault_fields (hsum : byteSum b = 0) (hformat : fieldAt b 0 1 = 1) : imageFault b =
    if fieldAt b 2 1 = 0 ∨ 31 < fieldAt b 2 1 then some .badAddress
    else if fieldAt b 1 1 = 0 then some .badSection
    else if fieldAt b 3 2 = 0 ∨ 4095 < fieldAt b 3 2 ∨ fieldAt b 5 2 = 0 then some .badBlock
    else none :=
  (if_neg (not_not.2 hsum)).trans (if_neg (not_not.2 hformat))

theorem imageFault_badAddress (hsum : byteSum b = 0) (hformat : fieldAt b 0 1 = 1)
    (hstation : fieldAt b 2 1 = 0 ∨ 31 < fieldAt b 2 1) : imageFault b = some .badAddress :=
  (imageFault_fields hsum hformat).trans (if_pos hstation)

theorem imageFault_badSection (hsum : byteSum b = 0) (hformat : fieldAt b 0 1 = 1)
    (hstation : ¬ (fieldAt b 2 1 = 0 ∨ 31 < fieldAt b 2 1)) (hsection : fieldAt b 1 1 = 0) :
    imageFault b = some .badSection := by
  rw [imageFault_fields hsum hformat, if_neg hstation, if_pos hsection]

theorem imageFault_badBlock (hsum : byteSum b = 0) (hformat : fieldAt b 0 1 = 1)
    (hstation : ¬ (fieldAt b 2 1 = 0 ∨ 31 < fieldAt b 2 1)) (hsection : fieldAt b 1 1 ≠ 0)
    (hblock : fieldAt b 3 2 = 0 ∨ 4095 < fieldAt b 3 2 ∨ fieldAt b 5 2 = 0) : imageFault b = some .badBlock := by
  rw [imageFault_fields hsum hformat, if_neg hstation, if_neg hsection, if_pos hblock]

end Faults

theorem exec_imageReadFailed_loading {s : State} (hnode : s.cfl.node = .loading) :
    exec .imageReadFailed s = .next (enterUnconfigured .noImage s) :=
  if_pos hnode

theorem exec_imageReadComplete_fault {b : List Byte} {reason : FaultReason} {s : State} (hnode : s.cfl.node = .loading)
    (hlen : b.length = 48) (hfault : imageFault b = some reason) :
    exec (.imageReadComplete b) s = .next (enterUnconfigured reason s) := by
  have hwhole : b.take imageLength = b := List.take_of_length_le hlen.le
  simp only [exec, execImageReadComplete, hwhole, hfault]
  exact if_pos ⟨hnode, hlen.ge⟩

/-- Settles O5, by the first fault of the image at each check of R194. -/
theorem imageFaultsUnconfigure : Obligations.ImageFaultsUnconfigure := by
  intro b s hnode hlen stop
  have hstop {reason : FaultReason} (hfault : imageFault b = some reason) :
      exec (.imageReadComplete b) s = stop reason := exec_imageReadComplete_fault hnode hlen hfault
  refine ⟨exec_imageReadFailed_loading hnode, fun hsum => hstop (imageFault_badSum hsum),
    fun hsum => ⟨fun hformat => hstop (imageFault_badFormat hsum hformat), fun hformat =>
      ⟨fun hstation => hstop (imageFault_badAddress hsum hformat hstation), fun hrange => ?_⟩⟩⟩
  have hstation : ¬ (fieldAt b 2 1 = 0 ∨ 31 < fieldAt b 2 1) := by omega
  exact ⟨fun hsection => hstop (imageFault_badSection hsum hformat hstation hsection),
    fun hsection hblock => hstop (imageFault_badBlock hsum hformat hstation hsection hblock)⟩

/-! ## The clamps (R196, R197) -/

/-- A value brought between two bounds, as the rows of R196 say it: below the least, above the greatest, or as it stands. -/
theorem max_min_eq_ite {α : Type} [LinearOrder α] {least greatest : α} (h : least ≤ greatest) (v : α) :
    max least (min greatest v) = if v < least then least else if greatest < v then greatest else v := by
  rw [min_def_lt, max_comm, max_def_lt]
  by_cases hv : greatest < v
  · rw [if_pos hv, if_neg h.not_gt, if_neg (h.trans hv.le).not_gt]
  · rw [if_neg hv]

/-- R197, step 1. -/
theorem clampLimit_eq (v : Int) : clampLimit v = if v < -1600 then -1600 else if 2047 < v then 2047 else v :=
  max_min_eq_ite (by decide) v

theorem clampLimit_of_mem {v : Int} (hleast : -1600 ≤ v) (hgreatest : v ≤ 2047) : clampLimit v = v := by
  unfold clampLimit
  omega

/-- R197, step 2: the limit of HIGH after it. -/
def raisedHigh (low high : Int) : Int := max (clampLimit high) (clampLimit low + 16)

/-- R197, step 3: the limit of CRITICAL after it. -/
def raisedCritical (low high critical : Int) : Int := max (clampLimit critical) (raisedHigh low high + 16)

theorem clampLimits_of_le {low high critical : Int} (h : raisedCritical low high critical ≤ 2047) :
    clampLimits low high critical = (clampLimit low, raisedHigh low high, raisedCritical low high critical) :=
  if_neg h.not_gt

/-- R197, step 4, where it takes effect. -/
theorem clampLimits_of_lt {low high critical : Int} (h : 2047 < raisedCritical low high critical) :
    clampLimits low high critical = (min (clampLimit low) 2015, min (raisedHigh low high) 2031, 2047) :=
  if_pos h

/-- R197: the three limits lie in their range and 16 or more apart, whatever the image holds. -/
theorem clampLimits_apart {low high critical l h c : Int} (hl : clampLimits low high critical = (l, h, c)) :
    -1600 ≤ l ∧ l + 16 ≤ h ∧ h + 16 ≤ c ∧ c ≤ 2047 := by
  have hleast : -1600 ≤ clampLimit low := le_max_left _ _
  have hhigh : clampLimit low + 16 ≤ raisedHigh low high := le_max_right _ _
  have hcritical : raisedHigh low high + 16 ≤ raisedCritical low high critical := le_max_right _ _
  rcases le_or_gt (raisedCritical low high critical) 2047 with hle | hlt
  · obtain ⟨rfl, rfl, rfl⟩ := (clampLimits_of_le hle).symm.trans hl
    exact ⟨hleast, hhigh, hcritical, hle⟩
  · obtain ⟨rfl, rfl, rfl⟩ := (clampLimits_of_lt hlt).symm.trans hl
    omega

/-- R197: limits that lie in their range and 16 or more apart stay. -/
theorem clampLimits_of_apart {low high critical : Int} (hlow : -1600 ≤ low) (hhigh : low + 16 ≤ high)
    (hcritical : high + 16 ≤ critical) (hgreatest : critical ≤ 2047) :
    clampLimits low high critical = (low, high, critical) := by
  have hl : clampLimit low = low := clampLimit_of_mem hlow (by omega)
  have hh : raisedHigh low high = high := by
    rw [raisedHigh, hl, clampLimit_of_mem (by omega) (by omega), max_eq_left hhigh]
  have hc : raisedCritical low high critical = critical := by
    rw [raisedCritical, hh, clampLimit_of_mem (by omega) hgreatest, max_eq_left hcritical]
  rw [clampLimits_of_le (hc.trans_le hgreatest), hl, hh, hc]

/-- R196: the seat count, at most 192, and such that the last seat is at most 4095. -/
theorem clampConfig_seatCount {r : NodeConfig} (hfirst : r.firstSeat ≤ 4095) :
    (clampConfig r).seatCount =
      if 4095 < r.firstSeat + (if 192 < r.seatCount then 192 else r.seatCount) - 1 then 4096 - r.firstSeat
      else if 192 < r.seatCount then 192 else r.seatCount := by
  change min (min 192 r.seatCount) (4096 - r.firstSeat) = _
  rw [← min_def_lt]
  split <;> omega

/-- R196: a faultless image's block keeps a seat, and its last seat is at most 4095. -/
theorem clampConfig_block {r : NodeConfig} (hfirst : r.firstSeat ≤ 4095) (hcount : 1 ≤ r.seatCount) :
    1 ≤ (clampConfig r).seatCount ∧ (clampConfig r).firstSeat + (clampConfig r).seatCount ≤ 4096 := by
  change 1 ≤ min (min 192 r.seatCount) (4096 - r.firstSeat) ∧
    r.firstSeat + min (min 192 r.seatCount) (4096 - r.firstSeat) ≤ 4096
  omega

/-- Settles O7, by the rows of R196 and the four steps of R197. -/
theorem clampedConfigInRange : Obligations.ClampedConfigInRange := by
  intro r _ hfirst hcount c
  have hlimits : clampLimits r.low r.high r.critical = (c.low, c.high, c.critical) := rfl
  refine ⟨⟨rfl, rfl, rfl, rfl, rfl⟩, clampConfig_seatCount hfirst, max_min_eq_ite (by decide) r.capacity,
    min_def_lt 16 r.clientWeight, max_min_eq_ite (by decide) r.slots, min_def_lt c.slots r.rmax, rfl,
    min_def_lt 1023 r.margin, ?_, clampLimits_apart hlimits, fun hlow hhigh hcritical hgreatest => ?_,
    clampConfig_block hfirst hcount⟩
  · intro ranged low high critical
    have hranged (v : Int) : ranged v = clampLimit v := (clampLimit_eq v).symm
    have hlow : low = clampLimit r.low := hranged r.low
    have hhigh : high = raisedHigh r.low r.high := by
      simp only [high, hlow, hranged, raisedHigh, max_def_lt]
    have hcritical : critical = raisedCritical r.low r.high r.critical := by
      simp only [critical, hhigh, hranged, raisedCritical, max_def_lt]
    rw [hcritical, hhigh, hlow, ← min_def_lt, ← min_def_lt]
    constructor
    · intro hle
      simpa using hlimits.symm.trans (clampLimits_of_le hle)
    · intro hlt
      simpa [min_comm] using hlimits.symm.trans (clampLimits_of_lt hlt)
  · simpa using hlimits.symm.trans (clampLimits_of_apart hlow hhigh hcritical hgreatest)

end Sys2Proof.Machine
end

section
/-! What only a step touches: the queue of commands. Every operation of the blocks leaves it as it is. -/
namespace Sys2Proof.Machine

/-! ## The shared operations -/

/-- A fold keeps the queue of commands where each of its steps does. -/
theorem foldl_pending {α : Type} {f : State → α → State} (hf : ∀ s a, (f s a).pending = s.pending) (l : List α)
    (s : State) : (l.foldl f s).pending = s.pending :=
  List.foldlRecOn (motive := fun t => t.pending = s.pending) l f rfl fun t ht a _ => (hf t a).trans ht

@[simp] theorem addInflight_pending (e : Inflight) (s : State) : (addInflight e s).pending = s.pending := rfl
@[simp] theorem updateSegment_pending (i q : Nat) (f : SegmentRecord → SegmentRecord) (s : State) :
    (updateSegment i q f s).pending = s.pending := rfl
@[simp] theorem countSteerFailure_pending (s : State) : (countSteerFailure s).pending = s.pending := rfl
@[simp] theorem writeSeat_pending (i : Nat) (e : SeatEntry) (s : State) : (writeSeat i e s).pending = s.pending := rfl
@[simp] theorem removeStream_pending (i : Nat) (s : State) : (removeStream i s).pending = s.pending := rfl
@[simp] theorem setDeclineHold_pending (station : Nat) (s : State) : (setDeclineHold station s).pending = s.pending := rfl
@[simp] theorem activateRecord_pending (c : Nat) (s : State) : (activateRecord c s).pending = s.pending := rfl
@[simp] theorem restartIdle_pending (c : Nat) (s : State) : (restartIdle c s).pending = s.pending := rfl
@[simp] theorem takeHeard_pending (c : Nat) (l : List Nat) (s : State) : (takeHeard c l s).pending = s.pending := rfl
@[simp] theorem withdrawWaiting_pending (c : Nat) (s : State) : (withdrawWaiting c s).pending = s.pending := rfl
@[simp] theorem nextFree_pending (s : State) : (nextFree s).pending = s.pending := rfl

/-! ## The association table (R26 to R46) -/

@[simp] theorem addRecord_pending (r : Record) (s : State) : (addRecord r s).pending = s.pending := recompute_pending _

@[simp] theorem deriveClass_pending (c : Nat) (s : State) : (deriveClass c s).pending = s.pending := by
  unfold deriveClass
  split <;> simp [apply_ite State.pending]

@[simp] theorem localAdmitted_pending (c : Nat) (b : Binding) (s : State) : (localAdmitted c b s).pending = s.pending := by
  unfold localAdmitted
  split <;> simp [apply_ite State.pending]

@[simp] theorem demote_pending (c q : Nat) (s : State) : (demote c q s).pending = s.pending := by
  unfold demote
  split <;> simp [apply_ite State.pending]

@[simp] theorem claimantFallback_pending (c : Nat) (s : State) : (claimantFallback c s).pending = s.pending := by
  unfold claimantFallback
  split <;> simp [apply_ite State.pending]

@[simp] theorem subscribe_pending (c stream : Nat) (s : State) : (subscribe c stream s).pending = s.pending := by
  unfold subscribe
  dsimp only
  split_ifs <;> simp

@[simp] theorem unsubscribe_pending (c stream : Nat) (s : State) : (unsubscribe c stream s).pending = s.pending := by
  unfold unsubscribe
  dsimp only
  split_ifs <;> simp

@[simp] theorem installStreams_pending (c : Nat) (l : List Nat) (s : State) : (installStreams c l s).pending = s.pending :=
  foldl_pending (fun s id => gainSubscriber_pending id s) _ _

@[simp] theorem takeDepart_pending (c : Nat) (s : State) : (takeDepart c s).pending = s.pending := by
  unfold takeDepart
  split <;> simp [apply_ite State.pending]

/-! ## The handoffs (R47 to R75) -/

@[simp] theorem pullEndsFresh_pending (lost : Bool) (c : Nat) (s : State) : (pullEndsFresh lost c s).pending = s.pending := by
  simp [pullEndsFresh, apply_ite State.pending]

@[simp] theorem secondAttempt_pending (e : Inflight) (s : State) : (secondAttempt e s).pending = s.pending := by
  unfold secondAttempt
  dsimp only
  split
  · simp
  · split <;> simp [apply_ite State.pending]

@[simp] theorem pullAttemptFails_pending (e : Inflight) (s : State) : (pullAttemptFails e s).pending = s.pending := by
  unfold pullAttemptFails
  split_ifs <;> simp

@[simp] theorem startPull_pending (c peer : Nat) (s : State) : (startPull c peer s).pending = s.pending := by
  unfold startPull
  dsimp only
  split <;> simp

@[simp] theorem takeGrant_pending (source : Nat) (g : GrantPayload) (s : State) : (takeGrant source g s).pending = s.pending := by
  unfold takeGrant
  split_ifs <;> simp

@[simp] theorem takeNone_pending (source c : Nat) (s : State) : (takeNone source c s).pending = s.pending := by
  unfold takeNone
  split_ifs <;> simp

@[simp] theorem takeHeld_pending (source c : Nat) (s : State) : (takeHeld source c s).pending = s.pending := by
  unfold takeHeld
  split_ifs <;> simp

@[simp] theorem removeGranted_pending (lost : Bool) (c : Nat) (s : State) : (removeGranted lost c s).pending = s.pending := by
  simp [removeGranted, apply_ite State.pending]

@[simp] theorem grantContext_pending (source since : Nat) (r : Record) (s : State) :
    (grantContext source since r s).pending = s.pending := by
  simp [grantContext, apply_ite State.pending]

@[simp] theorem abandonPull_pending (source c : Nat) (s : State) : (abandonPull source c s).pending = s.pending := by
  simp [abandonPull]

@[simp] theorem takePull_pending (source c since : Nat) (s : State) : (takePull source c since s).pending = s.pending := by
  unfold takePull
  split
  · split
    · rfl
    · split <;> simp [apply_ite State.pending]
  · rfl

@[simp] theorem offerEnds_pending (c : Nat) (s : State) : (offerEnds c s).pending = s.pending := by simp [offerEnds]

@[simp] theorem startOffer_pending (r : Record) (target : Nat) (s : State) : (startOffer r target s).pending = s.pending := by
  unfold startOffer
  dsimp only
  split <;> simp

@[simp] theorem steerEvaluate_pending (s : State) : (steerEvaluate s).pending = s.pending := by
  unfold steerEvaluate
  split
  · rfl
  · split
    · split <;> simp
    · rfl

@[simp] theorem takeAccept_pending (source c : Nat) (s : State) : (takeAccept source c s).pending = s.pending := by
  unfold takeAccept
  split_ifs <;> simp

@[simp] theorem takeDecline_pending (source c : Nat) (s : State) : (takeDecline source c s).pending = s.pending := by
  simp [takeDecline, apply_ite State.pending]

@[simp] theorem takeOffer_pending (source c : Nat) (seat : Option Nat) (s : State) :
    (takeOffer source c seat s).pending = s.pending := by
  unfold takeOffer
  split
  · rfl
  · split
    · split <;> simp
    · rfl

theorem responseExpiry_pending {kind : InflightKind} {c : Nat} {act : Inflight → State → State} {s : State}
    (hact : ∀ e u, (act e u).pending = u.pending) : (responseExpiry kind c act s).pending = s.pending := by
  unfold responseExpiry
  split <;> simp [hact, apply_ite State.pending]

/-! ## Admission (R27 to R33, R51) -/

@[simp] theorem answerAssociate_pending (c : Nat) (code : AssocCode) (cls : Option ClientClass) (s : State) :
    (answerAssociate c code cls s).pending = s.pending := astPlace_pending _ _

@[simp] theorem answerAccepted_pending (c : Nat) (code : AssocCode) (s : State) :
    (answerAccepted c code s).pending = s.pending := astPlace_pending _ _

@[simp] theorem waitOrRefuse_pending (q : AssocRequest) (s : State) : (waitOrRefuse q s).pending = s.pending := by
  unfold waitOrRefuse
  split_ifs <;> simp

@[simp] theorem associateExpected_pending (readmit : Bool) (r : Record) (q : AssocRequest) (s : State) :
    (associateExpected readmit r q s).pending = s.pending := by
  unfold associateExpected
  dsimp only
  split_ifs <;> simp

@[simp] theorem associateReleasing_pending (q : AssocRequest) (s : State) : (associateReleasing q s).pending = s.pending := by
  unfold associateReleasing
  split <;> simp

@[simp] theorem associateKnown_pending (readmit : Bool) (r : Record) (q : AssocRequest) (s : State) :
    (associateKnown readmit r q s).pending = s.pending := by
  unfold associateKnown
  split <;> simp

@[simp] theorem associateNew_pending (readmit : Bool) (q : AssocRequest) (s : State) :
    (associateNew readmit q s).pending = s.pending := by
  unfold associateNew
  split
  · simp [refuseFull]
  · split
    · simp
    · split_ifs <;> simp

@[simp] theorem associate_pending (readmit : Bool) (q : AssocRequest) (s : State) :
    (associate readmit q s).pending = s.pending := by
  unfold associate
  split
  · split <;> simp
  · split
    · split_ifs <;> simp
    · simp
  · simp
  · simp
  · rfl

/-! ## Check-in (R95 to R114) -/

@[simp] theorem updateSeat_pending (q : Nat) (f : SeatEntry → SeatEntry) (s : State) :
    (updateSeat q f s).pending = s.pending := by
  unfold updateSeat
  split <;> rfl

@[simp] theorem applyDecision_pending (c q : Nat) (d : Decision) (s : State) : (applyDecision c q d s).pending = s.pending := by
  unfold applyDecision
  split <;> simp

@[simp] theorem placeLocalResult_pending (p : Presentation) (code : CheckinCode) (n : Nat) (s : State) :
    (placeLocalResult p code n s).pending = s.pending := by
  unfold placeLocalResult stationGiven
  split_ifs <;> simp

@[simp] theorem placeOwnerResult_pending (c ticket seat : Nat) (code : CheckinCode) (owner n : Nat) (s : State) :
    (placeOwnerResult c ticket seat code owner n s).pending = s.pending := ckuPlace_pending _ _

@[simp] theorem refuseLocally_pending (p : Presentation) (code : CheckinCode) (n : Nat) (s : State) :
    (refuseLocally p code n s).pending = s.pending := by simp [refuseLocally]

@[simp] theorem presentLocally_pending (p : Presentation) (d : Decision) (s : State) :
    (presentLocally p d s).pending = s.pending := by
  unfold presentLocally
  dsimp only
  split <;> simp

@[simp] theorem startClaim_pending (p : Presentation) (owner : Nat) (s : State) : (startClaim p owner s).pending = s.pending := by
  unfold startClaim
  split
  · simp
  · dsimp only
    split <;> simp

@[simp] theorem presentActive_pending (c : NodeConfig) (r : Record) (p : Presentation) (s : State) :
    (presentActive c r p s).pending = s.pending := by
  unfold presentActive
  iterate 4
    split
    · simp
  split
  · simp
  · split <;> simp

@[simp] theorem present_pending (p : Presentation) (s : State) : (present p s).pending = s.pending := by
  unfold present
  dsimp only
  split <;> simp [apply_ite State.pending]

@[simp] theorem relayResult_pending (k : Claim) (code : CheckinCode) (s : State) :
    (relayResult k code s).pending = s.pending := by
  simp [relayResult, apply_ite State.pending]

@[simp] theorem endClaim_pending (k : Claim) (code : CheckinCode) (n : Nat) (s : State) :
    (endClaim k code n s).pending = s.pending := by
  unfold endClaim
  dsimp only
  split <;> simp [apply_ite State.pending]

@[simp] theorem takeVerdict_pending (source : Nat) (v : VerdictPayload) (s : State) :
    (takeVerdict source v s).pending = s.pending := by
  unfold takeVerdict
  split
  · split <;> simp
  · rfl

@[simp] theorem takeClaim_pending (source dest : Nat) (c : ClaimPayload) (s : State) :
    (takeClaim source dest c s).pending = s.pending := by
  unfold takeClaim
  split
  · split <;> simp
  · rfl

/-! ## Seat entitlements (R79 to R91) -/

@[simp] theorem countStale_pending (s : State) : (countStale s).pending = s.pending := rfl
@[simp] theorem refuseFrozen_pending (s : State) : (refuseFrozen s).pending = s.pending := rfl

@[simp] theorem replaceSeat_pending (c : NodeConfig) (i : Nat) (e : SeatEntry) (s : State) :
    (replaceSeat c i e s).pending = s.pending := by
  unfold replaceSeat
  dsimp only
  split <;> simp

theorem placeTicket_pending {c : NodeConfig} {index number : Nat} {apply : State → State} {s : State}
    (happly : ∀ x, (apply x).pending = x.pending) : (placeTicket c index number apply s).pending = s.pending := by
  unfold placeTicket
  split
  · exact happly s
  · split_ifs <;> simp [happly]

@[simp] theorem applyIssue_pending (c : NodeConfig) (index : Nat) (e : SeatEntry) (a : Entitlement) (s : State) :
    (applyIssue c index e a s).pending = s.pending := by
  unfold applyIssue
  split <;> exact placeTicket_pending fun x => by simp

@[simp] theorem applyVoid_pending (c : NodeConfig) (index : Nat) (e : SeatEntry) (a : Entitlement) (s : State) :
    (applyVoid c index e a s).pending = s.pending := by
  unfold applyVoid
  split
  · exact placeTicket_pending fun x => by simp
  all_goals simp

@[simp] theorem applyClear_pending (c : NodeConfig) (index : Nat) (e : SeatEntry) (a : Entitlement) (s : State) :
    (applyClear c index e a s).pending = s.pending := by
  unfold applyClear
  split <;> simp

@[simp] theorem applyFill_pending (index : Nat) (e : SeatEntry) (a : Entitlement) (s : State) :
    (applyFill index e a s).pending = s.pending := by
  unfold applyFill
  split <;> simp [apply_ite State.pending]

@[simp] theorem applyAction_pending (c : NodeConfig) (index : Nat) (e : SeatEntry) (a : Entitlement) (s : State) :
    (applyAction c index e a s).pending = s.pending := by
  unfold applyAction
  split <;> simp

@[simp] theorem takeEntitlement_pending (a : Entitlement) (s : State) : (takeEntitlement a s).pending = s.pending := by
  unfold takeEntitlement decideEntitlement
  split
  · rfl
  · split
    · split <;> simp [apply_ite State.pending]
    · rfl

@[simp] theorem takeFreeze_pending (target : Nat) (mask : BitVec 16) (s : State) :
    (takeFreeze target mask s).pending = s.pending := by
  unfold takeFreeze
  split_ifs <;> rfl

@[simp] theorem takeUnfreeze_pending (target : Nat) (mask : BitVec 16) (s : State) :
    (takeUnfreeze target mask s).pending = s.pending := by
  unfold takeUnfreeze
  split_ifs <;> rfl

/-! ## Replay (R116 to R151) -/

@[simp] theorem finishDraining_pending (id : Nat) (s : State) : (finishDraining id s).pending = s.pending := by
  unfold finishDraining
  split <;> simp [apply_ite State.pending]

@[simp] theorem withdrawStream_pending (id : Nat) (s : State) : (withdrawStream id s).pending = s.pending := by
  unfold withdrawStream
  split <;> simp [apply_ite State.pending]

@[simp] theorem takeAnnounce_pending (a : Announce) (s : State) : (takeAnnounce a s).pending = s.pending := by
  unfold takeAnnounce addStream
  split
  · rfl
  · split
    · rfl
    · split
      · simp [apply_ite State.pending]
      · split
        · rfl
        · split
          · rfl
          · split <;> rfl

@[simp] theorem takeChunkWithoutRecord_pending (st : Stream) (c : Chunk) (s : State) :
    (takeChunkWithoutRecord st c s).pending = s.pending := by
  unfold takeChunkWithoutRecord createSegment
  split_ifs
  · rfl
  · split <;> rfl
  · rfl

@[simp] theorem takeSegment_pending (c : Chunk) (s : State) : (takeSegment c s).pending = s.pending := by
  unfold takeSegment
  split
  · rfl
  · split
    · rfl
    · split
      · rfl
      · split
        · simp
        · split_ifs <;> simp [countMalformed, freeSegment]

@[simp] theorem endSegment_pending (id q : Nat) (s : State) : (endSegment id q s).pending = s.pending := by
  unfold endSegment
  dsimp only
  split <;> simp [apply_ite State.pending]

@[simp] theorem emitChunk_pending (p : Place) (r : SegmentRecord) (i : Nat) (s : State) :
    (emitChunk p r i s).pending = s.pending := by
  unfold emitChunk
  dsimp only
  split_ifs <;> simp

@[simp] theorem underrun_pending (p : Place) (st : Stream) (s : State) : (underrun p st s).pending = s.pending := by
  unfold underrun
  dsimp only
  split_ifs <;> simp

@[simp] theorem spendBehind_pending (id : Nat) (last : Option Nat) (s : State) : (spendBehind id last s).pending = s.pending := by
  unfold spendBehind
  split <;> rfl

@[simp] theorem lagCut_pending (id : Nat) (last : Option Nat) (s : State) : (lagCut id last s).pending = s.pending := by
  unfold lagCut
  dsimp only
  split_ifs <;> rfl

@[simp] theorem emitNext_pending (p : Place) (st : Stream) (s : State) : (emitNext p st s).pending = s.pending := by
  unfold emitNext
  dsimp only
  split <;> simp

@[simp] theorem emitSlot_pending (p : Place) (st : Stream) (s : State) : (emitSlot p st s).pending = s.pending := by
  unfold emitSlot
  split
  · simp
  · split <;> simp

@[simp] theorem handleSlot_pending (s : State) : (handleSlot s).pending = s.pending := by
  unfold handleSlot
  split
  · rfl
  · split
    · rfl
    · split_ifs <;> simp

@[simp] theorem gapDrop_pending (s : State) : (gapDrop s).pending = s.pending := by
  unfold gapDrop
  rw [raiseGaps_eq]
  rfl

@[simp] theorem startSlot_pending (slot : Nat) (s : State) : (startSlot slot s).pending = s.pending := rfl

@[simp] theorem startFrame_pending (s : State) : (startFrame s).pending = s.pending := by
  simp [startFrame, putInForce]

@[simp] theorem rebuild_pending (s : State) : (rebuild s).pending = s.pending := by
  rw [rebuild_eq]
  rfl

@[simp] theorem replayReset_pending (s : State) : (replayReset s).pending = s.pending := by
  unfold replayReset
  split
  · exact foldl_pending (fun s id => finishDraining_pending id s) _ s
  · rfl

/-! ## The RBC's reports (R48, R63, R175) and the row bus (R165 to R174) -/

@[simp] theorem grantEnded_pending (lost : Bool) (c : Nat) (s : State) : (grantEnded lost c s).pending = s.pending := by
  unfold grantEnded
  split
  · rfl
  · split
    · dsimp only
      split <;> simp
    · rfl

@[simp] theorem reportSent_pending (f : TxFrame) (s : State) : (reportSent f s).pending = s.pending := by
  unfold reportSent
  split <;> simp

@[simp] theorem reportDropped_pending (f : TxFrame) (s : State) : (reportDropped f s).pending = s.pending := by
  unfold reportDropped
  split
  · simp
  · split <;> simp
  · split <;> simp
  · split <;> simp
  all_goals rfl

@[simp] theorem enterMuted_pending (s : State) : (enterMuted s).pending = s.pending :=
  foldl_pending (fun s f => reportDropped_pending f s) _ _

@[simp] theorem addressClash_pending (s : State) : (addressClash s).pending = s.pending := by
  unfold addressClash
  dsimp only
  split_ifs <;> simp

@[simp] theorem collide_pending (t : Transmitter) (s : State) : (collide t s).pending = s.pending := by
  unfold collide
  dsimp only
  split_ifs <;> simp

@[simp] theorem takeAdvert_pending (source : Nat) (a : AdvertPayload) (s : State) :
    (takeAdvert source a s).pending = s.pending := by
  unfold takeAdvert
  split_ifs <;> rfl

/-! ## The site time (R155 to R160) -/

@[simp] theorem takeTime_pending (t : Nat) (s : State) : (takeTime t s).pending = s.pending := by
  unfold takeTime
  split_ifs <;> rfl

@[simp] theorem takePhase_pending (f : Phase) (s : State) : (takePhase f s).pending = s.pending := by
  unfold takePhase
  dsimp only
  split_ifs <;> rfl

@[simp] theorem takeClock_pending (t : Nat) (f : Option Phase) (s : State) : (takeClock t f s).pending = s.pending := by
  unfold takeClock
  split
  · split <;> simp
  · rfl

/-! ## Received frames (R165 to R167) -/

@[simp] theorem route_pending (kind : Byte) (source dest : Nat) (p : List Byte) (s : State) :
    (route kind source dest p s).pending = s.pending := by
  unfold route
  split
  case h_17 => rfl
  all_goals split <;> simp

@[simp] theorem settleFrame_pending (kind : Byte) (f : BusFrame) (s : State) :
    (settleFrame kind f s).pending = s.pending := by
  unfold settleFrame
  split_ifs
  · rfl
  all_goals simp

@[simp] theorem receive_pending (kind : Byte) (f : BusFrame) (s : State) : (receive kind f s).pending = s.pending := by
  unfold receive
  split_ifs
  · rfl
  · exact settleFrame_pending kind f (carrierEnded s)
  · rfl

/-! ## The moves of the node state (R195, R198, R199) -/

@[simp] theorem enterUnconfigured_pending (reason : FaultReason) (s : State) :
    (enterUnconfigured reason s).pending = s.pending := rfl

@[simp] theorem enterListening_pending (raw : NodeConfig) (s : State) : (enterListening raw s).pending = s.pending :=
  (startFrame_pending _).trans (recompute_pending _)

@[simp] theorem enterJoined_pending (c : NodeConfig) (s : State) : (enterJoined c s).pending = s.pending := by
  simp [enterJoined]

end Sys2Proof.Machine
end

section
/-! Totality of the commands, and the step that runs the one at the front of the queue. -/
namespace Sys2Proof.Machine

/-- The outcome is a next state, with the queue of commands of `s`. -/
def Completes (s : State) (o : Host.Outcome State Fault Refusal) : Prop := ∃ t, o = .next t ∧ t.pending = s.pending

theorem Completes.next {s t : State} (h : t.pending = s.pending) : Completes s (.next t) := ⟨t, rfl, h⟩

/-- A command that the state gives no effect. -/
theorem Completes.idle (s : State) : Completes s (.next s) := .next rfl

/-! ## Requests -/

/-- R181: a request completes where its owner's act keeps the queue. -/
theorem takeRequest_completes {α : Type} {kind : Nat} {read : List Byte → Option α} {act : α → State → State}
    (hact : ∀ a u, (act a u).pending = u.pending) (s : State) : Completes s (takeRequest kind read act s) := by
  unfold takeRequest
  split
  · exact .idle s
  · split
    · exact .next rfl
    · exact .next ((hact _ _).trans (popRequest_pending s))

theorem takeNotice_completes (op : Nat → Bool) (act : BitVec 32 → Ntu → Ntu) (s : State) :
    Completes s (takeNotice op act s) := by
  unfold takeNotice
  split
  · exact .idle s
  · split
    · split <;> exact .next rfl
    · exact .idle s

/-! ## The commands -/

/-- R193, R194, R198: the image. -/
theorem execImageReadComplete_completes (image : List Byte) (s : State) : Completes s (execImageReadComplete image s) := by
  unfold execImageReadComplete
  split
  · dsimp only
    split
    · exact .next (enterUnconfigured_pending _ s)
    · exact .next (enterListening_pending _ s)
  · exact .idle s

/-- R171: the start of a frame. -/
theorem execTxStart_completes (idle : Nat) (s : State) : Completes s (execTxStart idle s) := by
  unfold execTxStart
  split
  · dsimp only
    split <;> exact .next rfl
  · exact .idle s

/-- R173: the start of a retry. -/
theorem execRetryAttemptStart_completes (idle : Nat) (s : State) : Completes s (execRetryAttemptStart idle s) := by
  unfold execRetryAttemptStart
  split
  · exact .idle s
  · split
    · dsimp only
      split <;> exact .next rfl
    · exact .idle s

/-- Command by command: what it meets in the state decides between its effect and none, and neither touches the queue. -/
theorem exec_completes (i : Instr) (s : State) : Completes s (exec i s) := by
  cases i with
  | imageReadComplete image => exact execImageReadComplete_completes image s
  | txStart idle => exact execTxStart_completes idle s
  | retryAttemptStart idle => exact execRetryAttemptStart_completes idle s
  | fullReset _ | declineHoldExpiry _ | basebandReady _ | carrierStart => exact .next rfl
  | pullResponseTimeout _ => exact .next (responseExpiry_pending pullAttemptFails_pending)
  | offerResponseTimeout _ => exact .next (responseExpiry_pending fun e => offerEnds_pending e.client)
  | loadAdvert f | ctxPull f | ctxGrant f | ctxNone f | ctxHeld f | steerOffer f | steerAccept f | steerDecline f
  | checkinClaim f | checkinVerdict f | checkinNote f | incident f | resyncRequest f | issue f | reissue f | void f
  | clearCheckin f | resyncFill f | invalidEntitlementCode f | freeze f | unfreeze f | clock f | streamAnnounce f
  | segment f | unknownKindFrame _ f => exact .next (receive_pending _ _ s)
  | associate | heard | depart | presentTicket | subscribe | unsubscribe | replayReset | statusQuery =>
    simp only [exec, execAssociate, execHeard, execDepart, execPresentTicket, execSubscribe, execUnsubscribe,
      execReplayReset, execStatusQuery]
    exact takeRequest_completes (fun _ _ => by simp) s
  | enable | disable | ack | globalOn | globalOff | clearAll | noticeControlBadOperation =>
    simp only [exec, execEnable, execDisable, execAck, execGlobalOn, execGlobalOff, execClearAll,
      execNoticeControlBadOperation]
    exact takeNotice_completes _ _ s
  | imageReadFailed | siteTimeTick | frameStart | slotStart | lastSlotStart | advertTimerExpiry | jamWatchExpiry
  | recordTaken | linkRecordArrival _ _ _ =>
    simp only [exec, execImageReadFailed, execSiteTimeTick, execFrameStart, execSlotStart, execLastSlotStart,
      execAdvertTimerExpiry, execJamWatchExpiry, execRecordTaken, execLinkRecordArrival]
    split <;> exact .next (by simp)
  | holdOffTimerExpiry =>
    simp only [exec, execHoldOffTimerExpiry]
    split
    · exact .idle s
    · exact .next (by split <;> simp)
  | carrierEnd run =>
    simp only [exec, execCarrierEnd]
    split
    · split <;> exact .next rfl
    · exact .next (receive_pending _ _ s)
  | listenTimerExpiry | ageTimerExpiry _ | idleTimerExpiry _ | claimantTimerExpiry _ | expectationHoldExpiry _
  | steerHoldExpiry _ | claimTimerExpiry _ | backoffEnd | collision | frameSent | waitQueueHead | unknownKindRecord
  | hoeBacklogMove | ckuBacklogMove | astBacklogMove | streamEnded | noticeDelivery =>
    simp only [exec, execListenTimerExpiry, execAgeTimerExpiry, execIdleTimerExpiry, execClaimantTimerExpiry,
      execExpectationHoldExpiry, execSteerHoldExpiry, execClaimTimerExpiry, execBackoffEnd, execCollision, execFrameSent,
      execWaitQueueHead, execUnknownKindRecord, execHoeBacklogMove, execCkuBacklogMove, execAstBacklogMove,
      execStreamEnded, execNoticeDelivery, reject]
    split
    · exact .idle s
    · split <;> exact .next (by simp)

/-- Settles O2, command by command. -/
theorem everyCommandCompletes : Obligations.EveryCommandCompletes := exec_completes

/-! ## One step -/

theorem step_cons {c : Instr} {rest : List Instr} {s : State} (h : s.pending = c :: rest) :
    step s = exec c (s.withPending rest) := by
  simp only [step, h]

theorem step_nil {s : State} (h : s.pending = []) : step s = .next s := by
  simp only [step, h]

/-- Settles O1, by the queue of commands. -/
theorem stepRunsFrontCommand : Obligations.StepRunsFrontCommand :=
  ⟨fun _ _ _ h => step_cons h, fun _ h => step_nil h⟩

end Sys2Proof.Machine
end
